-- ==== Sys2Proof/Word.lean ====
section
/-! DEFINITION. The words of the part: bytes, field numbers, time. -/

namespace Sys2Proof

/-- One byte of the expansion bus (09 R172). -/
abbrev Byte := BitVec 8

/-- A 32-bit field number; it wraps (06 R118). -/
abbrev FieldNo := BitVec 32

/-- A moment, in sixteenths of a nominal pixel clock since the last power-on (07 R131; log 5). -/
abbrev Time := Int

/-- A place in the plate table, 0 to 31 (01 R1). -/
abbrev Slot := Fin 32

/-- A place in the cue list, 0 to 127 (04 R79). -/
abbrev CueIndex := Fin 128

/-- One of the four scenes (05 R105). -/
abbrev SceneNo := Fin 4

/-- The slots in ascending order (01 R1). -/
def allSlots : List Slot := List.finRange 32

end Sys2Proof
end

