-- ==== Sys2Proof/Syntax.lean ====
section
/-! DEFINITION. The commands of the part: one constructor of Instr per row of spec/opcode_table.json. -/

namespace Sys2Proof

/-- The two reference inputs, A and B (07 R131). The same names serve the selected source and the level of SRCSEL
(07 R150: Low for A, High for B). -/
inductive Input
  | a | b
  deriving DecidableEq, Repr

/-- The pattern of a field sync (07 R131). -/
inductive Pattern
  | onLine | halfLine
  deriving DecidableEq, Repr

/-- The steps of the part. A step's operands are what the outside supplies with it. The operand bytes of a request stand
in the request FIFO, where the host wrote them (09 R174, R177; log 4). -/
inductive Instr
  /-- POWER_ON_RESET (08 R171): RESET Low, then High. -/
  | powerOnReset
  /-- REQUEST_BYTE_WRITE (09 R174): a byte written to location 0. -/
  | requestByteWrite (b : Byte)
  /-- REPLY_BYTE_READ (09 R172): a read of location 0. -/
  | replyByteRead
  /-- ABORT (09 R183): the byte written to location 1. -/
  | abort (ctl : Byte)
  /-- SOFT_RESET (09 R184): the byte written to location 1. -/
  | softReset (ctl : Byte)
  /-- ATTENTION_CLEAR (10 R190): the location, 2 or 3, and the byte written to it. -/
  | attentionClear (loc : BitVec 2) (bits : Byte)
  /-- UNKNOWN_REQUEST (09 R178). -/
  | unknownRequest
  /-- UNFRAMEABLE_REQUEST (09 R175). -/
  | unframeableRequest
  /-- SELECT_SOURCE (07 R149). -/
  | selectSource
  /-- SET_PROFILE (07 R134). -/
  | setProfile
  /-- SET_INPUT (07 R135). -/
  | setInput
  /-- SET_STANDARD (07 R136). -/
  | setStandard
  /-- SET_RASTER (08 R169), executed at the moment t, which a LINE LENGTH align needs. -/
  | setRaster (t : Time)
  /-- ALIGN_NOW (08 R167), executed at the moment t. -/
  | alignNow (t : Time)
  /-- READ_TIMING (07 R154). -/
  | readTiming
  /-- SET_FIELD_COUNT (06 R119). -/
  | setFieldCount
  /-- SET_MARK (06 R121). -/
  | setMark
  /-- SET_INTERVAL (06 R123). -/
  | setInterval
  /-- SET_COUNTER (06 R127). -/
  | setCounter
  /-- READ_COUNTERS (06 R129). -/
  | readCounters
  /-- PLACE (02 R33). -/
  | place
  /-- AMEND (02 R35). -/
  | amend
  /-- SHOW (02 R33). -/
  | showPlate
  /-- CLOSE (02 R33). -/
  | close
  /-- DROP (02 R33). -/
  | drop
  /-- GROUP_CLOSE (02 R33). -/
  | groupClose
  /-- GROUP_MOVE (02 R33). -/
  | groupMove
  /-- SET_PINNED (01 R16). -/
  | setPinned
  /-- QUERY (01 R23). -/
  | query
  /-- PROBE (01 R25). -/
  | probe
  /-- LIST (01 R26). -/
  | list
  /-- LIST_SLOT_EXAMINE (01 R27). -/
  | listSlotExamine
  /-- LIST_RESUME (01 R28). -/
  | listResume
  /-- LIST_END (01 R29). -/
  | listEnd
  /-- SET_LEVELS (03 R67). -/
  | setLevels
  /-- SET_KEYING (03 R76). -/
  | setKeying
  /-- WRITE_CUES (04 R82). -/
  | writeCues
  /-- READ_CUES (04 R83). -/
  | readCues
  /-- SET_SEQUENCER (04 R84). -/
  | setSequencer
  /-- START (04 R86). -/
  | start
  /-- HALT (04 R87). -/
  | halt
  /-- STEP (04 R91). -/
  | step
  /-- DO_CUE (04 R102). -/
  | doCue
  /-- SAVE_SCENE (05 R107). -/
  | saveScene
  /-- RECALL_SCENE (05 R111). -/
  | recallScene
  /-- CLEAR_SCENE (05 R109). -/
  | clearScene
  /-- READ_SCENES (05 R110). -/
  | readScenes
  /-- SYNC (09 R181). -/
  | sync
  /-- FIELD_REPORT (09 R182). -/
  | fieldReport
  /-- SET_ENABLES (10 R191). -/
  | setEnables
  /-- READ_ATTENTION (10 R193). -/
  | readAttention
  /-- CUE_IN_EDGE (04 R88): a rising edge of CUE IN. -/
  | cueInEdge
  /-- CUE_EXECUTION (04 R93). -/
  | cueExecution
  /-- STALL_RESUMPTION (04 R100). -/
  | stallResumption
  /-- DELAY_EXPIRY (04 R98). -/
  | delayExpiry
  /-- FIELD_BOUNDARY (08 R158): the output field in progress ends. -/
  | fieldBoundary
  /-- INTERVAL_EXPIRY (06 R122). -/
  | intervalExpiry
  /-- COUNT_DONE (06 R125). -/
  | countDone
  /-- HALT_ON_COUNT (06 R125). -/
  | haltOnCount
  /-- HOLDOVER_EXPIRY (07 R145). -/
  | holdoverExpiry
  /-- SLEW_TIMEOUT (08 R165). -/
  | slewTimeout
  /-- LINE_START (03 R68): an output line starts. -/
  | lineStart
  /-- SEGMENT_END (08 R163). -/
  | segmentEnd
  /-- HOLD_DECAY_SEGMENT (08 R160). -/
  | holdDecaySegment
  /-- LINE_SYNC (07 R137): the input it comes from and its arrival time. -/
  | lineSync (input : Input) (t : Time)
  /-- LINE_WINDOW_CLOSE (07 R138). -/
  | lineWindowClose
  /-- FIELD_SYNC (07 R139): the input, the pattern and the arrival time. -/
  | fieldSync (input : Input) (pattern : Pattern) (t : Time)
  /-- FLYWHEEL_PREDICTED_LINE (07 R144). -/
  | flywheelPredictedLine
  deriving DecidableEq, Repr

end Sys2Proof
end

