-- ==== Sys2Proof/Decode.lean ====
section
/-! DEFINITION. The command a table word spells: spec/opcode_table.json gives no row any bits, so no word spells a command. -/

namespace Sys2Proof

/-- The command that the word w of nbits bits spells by the table's bits. No row of the table gives bits. -/
def decodeTableWord (_nbits _w : Nat) : Option Instr := none

end Sys2Proof
end

