-- ==== Sys2Proof/Config.lean ====
section
/-! DEFINITION. The fixed sizes of the part. The spec leaves no value open, so there is no free value here. -/

namespace Sys2Proof.Config

/-- Bytes of the request FIFO (09 R176). -/
def requestFifoSize : Nat := 64

/-- Bytes of the reply FIFO (09 R179). -/
def replyFifoSize : Nat := 64

/-- The most operand bytes a framed request has (09 R174, R175). -/
def maxOperands : Nat := 30

/-- Room in the request FIFO that the status bit ROOM reports (09 R173). -/
def roomBytes : Nat := 32

/-- Entries of the amendment queue (02 R32). -/
def queueDepth : Nat := 16

/-- The most spans of one row (03 R70). -/
def spanLimit : Nat := 8

/-- The most cues of one run (04 R96). -/
def runLimit : Nat := 16

/-- The unit of the raster's position: 2^20 to a sixteenth of a pixel clock (08 R159). -/
def fine : Int := 1048576

/-- Least and greatest coordinate of a plate's corner (01 R13). -/
def coordMin : Int := -1024
def coordMax : Int := 2047

end Sys2Proof.Config
end

