-- ==== Sys2Proof/Machine/State.lean ====
section
/-! DEFINITION. The state of the part: every register, FIFO, counter and flag of its nine blocks, and the state after power-on.
Each field cites the rule of spec/ that names it. -/

namespace Sys2Proof.Machine

/-! ## Plates (chapters 01 and 02) -/

/-- The state of a live plate (01 R2); a FREE slot holds no plate. -/
inductive PlateState
  | armed | shown | closing
  deriving DecidableEq, Repr

/-- Key mode (01 R4). -/
inductive KeyMode
  | box | index
  deriving DecidableEq, Repr

/-- Start mode together with the start field, which is present exactly in AT FIELD (01 R4, R6). -/
inductive StartMode
  | now | atField (f : FieldNo) | onCue
  deriving DecidableEq, Repr

/-- The notify set (01 R8). -/
structure NotifySet where
  shown : Bool
  closed : Bool
  stopped : Bool
  deriving DecidableEq, Repr

/-- The fields of a plate that the host gives at PLACE: every field marked host in 01 R4. A transparent index, a stop row and
a stop column may be absent (01 R6). -/
structure HostFields where
  tag : Byte
  group : Nat
  layer : Nat
  top : Int
  left : Int
  height : Nat
  width : Nat
  keyMode : KeyMode
  transIndex : Option Nat
  mixTarget : Nat
  fadeStep : Nat
  start : StartMode
  lifetime : Nat
  rowRate : Int
  colRate : Int
  stopRow : Option Int
  stopCol : Option Int
  notify : NotifySet
  holdInSlew : Bool
  closeAtStop : Bool
  deriving DecidableEq, Repr

/-- The record of a live plate (01 R4): the host fields and the fields the part maintains. -/
structure Plate extends HostFields where
  state : PlateState
  mix : Nat
  fadePhase : Nat
  held : Bool
  new : Bool
  deriving DecidableEq, Repr

/-- A scene image (05 R106): the host fields at saving, and whether the plate was SHOWN (else ARMED). -/
structure Image extends HostFields where
  shown : Bool
  deriving DecidableEq, Repr

/-- A field-select set with the value of each selected field (02 R35); a field not selected is none. For the three fields
that may be absent, some none makes the field absent. -/
structure FieldSelect where
  group : Option Nat
  layer : Option Nat
  top : Option Int
  left : Option Int
  height : Option Nat
  width : Option Nat
  keyMode : Option KeyMode
  transIndex : Option (Option Nat)
  mixTarget : Option Nat
  fadeStep : Option Nat
  lifetime : Option Nat
  rowRate : Option Int
  colRate : Option Int
  stopRow : Option (Option Int)
  stopCol : Option (Option Int)
  notify : Option NotifySet
  holdInSlew : Option Bool
  closeAtStop : Option Bool
  deriving DecidableEq, Repr

/-- Who posted an amendment (02 R32). -/
inductive Origin
  | request | cue (index : CueIndex)
  deriving DecidableEq, Repr

/-- Kind and operands of an amendment (02 R32). A PLACE with slot none is a PLACE ANY (01 R19). -/
inductive AmendOp
  | place (slot : Option Slot) (fields : HostFields)
  | amend (tag : Byte) (sel : FieldSelect)
  | showPlate (tag : Byte)
  | close (tag : Byte)
  | drop (tag : Byte)
  | mix (tag : Byte) (level : Nat)
  | groupClose (group : Nat)
  | groupMove (group : Nat) (rows cols : Int)
  | setPinned (p : Nat)
  | recall (scene : SceneNo)
  deriving DecidableEq, Repr

/-- One entry of the amendment queue (02 R32). -/
structure Amendment where
  origin : Origin
  op : AmendOp
  deriving DecidableEq, Repr

/-- Amendment kinds, as APPLY FAULT reports them (09 R187). -/
inductive AmendKind
  | place | amend | showPlate | close | drop | mix | groupClose | groupMove | setPinned | recall
  deriving DecidableEq, Repr

/-- Reasons of APPLY FAULT (02 R39). -/
inductive FaultReason
  | tagInUse | slotInUse | tableFull | overlap | range | noSuchTag | closing | notArmed
  | sceneEmpty | sceneTooLarge | sceneConflict
  deriving DecidableEq, Repr

/-- The 32 slots (01 R1): FREE is none. -/
abbrev Slots := Vector (Option Plate) 32

/-- The Plate Table block: slots, pinned boundary, rotation index, amendment queue (01 R1, R15, R17; 02 R32). -/
structure PlateTable where
  slots : Slots
  pinned : Nat
  rotation : Slot
  queue : List Amendment
  deriving DecidableEq, Repr

/-! ## Keyer (chapter 03) -/

/-- An entry of the latched visible set (03 R63). -/
structure VisPlate where
  slot : Slot
  tag : Byte
  layer : Nat
  top : Int
  left : Int
  height : Nat
  width : Nat
  keyMode : KeyMode
  transIndex : Option Nat
  mix : Nat
  deriving DecidableEq, Repr

/-- A span (03 R69). -/
structure Span where
  slot : Slot
  layer : Nat
  leftCol : Int
  rightCol : Int
  keyMode : KeyMode
  transIndex : Option Nat
  mix : Nat
  deriving DecidableEq, Repr

/-- Fallback mode (03 R75). -/
inductive Fallback
  | cut | full | keep
  deriving DecidableEq, Repr

/-- The fallback decision of a line (03 R75): KEY as the spans give, 0 at every picture pixel, or 16 at every picture pixel. -/
inductive LineDecision
  | normal | zero | full
  deriving DecidableEq, Repr

/-- The Keyer (03). row is the picture row of the current line, none on a blanking line (03 R68); fieldNumber is the number
carried by the boundary that began the field (03 R71). -/
structure Keyer where
  live : Vector Nat 16
  pendingLevels : Vector Nat 16
  fallback : Fallback
  visible : List VisPlate
  row : Option Nat
  spans : List Span
  decision : LineDecision
  fieldNumber : FieldNo
  deriving DecidableEq, Repr

/-! ## Cue Sequencer (chapter 04) -/

/-- Cue actions (04 R79). -/
inductive CueAction
  | nothing | showPlate | close | drop | mix | groupClose | groupMove | recall | delay
  deriving DecidableEq, Repr

/-- The flags of a cue (04 R81). -/
structure CueFlags where
  wait : Bool
  halt : Bool
  end_ : Bool
  notify : Bool
  deriving DecidableEq, Repr

/-- A cue entry (04 R79); the parameter of GROUP MOVE holds the row displacement in its low byte and the column displacement
in its high byte (09 R187, cue entry). -/
structure CueEntry where
  action : CueAction
  operand : Byte
  parameter : BitVec 16
  flags : CueFlags
  deriving DecidableEq, Repr

/-- Sequencer states (04 R85). -/
inductive SeqState
  | halted | waiting | running | stalled | delaying
  deriving DecidableEq, Repr

/-- Sequencer mode (04 R84). -/
inductive SeqMode
  | once | loop
  deriving DecidableEq, Repr

/-- The trigger-source set (04 R88). -/
structure TriggerSources where
  cueIn : Bool
  interval : Bool
  markA : Bool
  deriving DecidableEq, Repr

/-- The Cue Sequencer (04). The last five fields are events that another block has given and the sequencer has not taken yet
(log 8, log 9): INTERVAL events, MARK A events and counter halts (06 R128), a delay that has run out at a boundary (04 R98), a
drained queue while STALLED (04 R100). -/
structure Sequencer where
  cues : Vector CueEntry 128
  pointer : CueIndex
  loopStart : CueIndex
  mode : SeqMode
  sources : TriggerSources
  state : SeqState
  runCount : Nat
  delay : Nat
  intervalsDue : Nat
  marksDue : Nat
  haltsDue : Nat
  expiryDue : Bool
  resumeDue : Bool
  deriving DecidableEq, Repr

/-! ## Scene Store (chapter 05) -/

/-- A scene (05 R105); its image count is the length of images. -/
structure Scene where
  valid : Bool
  savedField : FieldNo
  images : List Image
  deriving DecidableEq, Repr

/-- The four scenes (05 R105). -/
abbrev Scenes := Vector Scene 4

/-! ## Field Clock (chapter 06) -/

/-- A mark (06 R120). -/
structure Mark where
  value : FieldNo
  enable : Bool
  deriving DecidableEq, Repr

/-- The event-select set (06 R124). -/
structure EventSelect where
  field : Bool
  trigger : Bool
  endPass : Bool
  cueIn : Bool
  closing : Bool
  deriving DecidableEq, Repr

/-- Events handed to the event counter from outside the Field Clock's own boundary share (06 R124). -/
inductive CountEvent
  | trigger | endPass | cueIn | closing
  deriving DecidableEq, Repr

/-- The Field Clock (06). handed holds events given to the event counter and not yet counted (06 R126; log 10). -/
structure FieldClock where
  counter : FieldNo
  markA : Mark
  markB : Mark
  intervalLength : Nat
  intervalCount : Nat
  preset : Nat
  count : Nat
  select : EventSelect
  haltOnCount : Bool
  handed : List CountEvent
  deriving DecidableEq, Repr

/-! ## Reference Lock Controller (chapter 07) -/

/-- The two standards (07 R132). -/
inductive Standard
  | s625 | s525
  deriving DecidableEq, Repr

/-- The standard setting (07 R136). -/
inductive StandardSetting
  | auto | only625 | only525
  deriving DecidableEq, Repr

/-- The lock state (07 R137 to R147). -/
inductive LockState
  | search | lineLock | frameLock | flywheel
  deriving DecidableEq, Repr

/-- Field identity (07 R131). -/
inductive FieldId
  | first | second
  deriving DecidableEq, Repr

/-- The two profiles by name (07 R133). -/
inductive ProfileName
  | broadcast | tape
  deriving DecidableEq, Repr

/-- The six values of a profile (07 R133). -/
structure Profile where
  lineWindow : Nat
  qualify : Nat
  missLimit : Nat
  holdover : Nat
  zone : Nat
  trackGain : Nat
  deriving DecidableEq, Repr

/-- A set of sync-fault kinds (07 R152). -/
structure SyncFaults where
  mismatch : Bool
  longField : Bool
  shortField : Bool
  parity : Bool
  holdover : Bool
  deriving DecidableEq, Repr

/-- The reference frame position: the field in progress, the number of its current line, and whether it was begun by
prediction (07 R140, R141). -/
structure RefField where
  id : FieldId
  count : Nat
  predicted : Bool
  deriving DecidableEq, Repr

/-- A position of the output raster: frame line, and sixteenths of a pixel clock into it (08 R158). -/
structure OutPos where
  line : Int
  p : Int
  deriving DecidableEq, Repr

/-- Ramp stages (08 R163). -/
inductive RampStage
  | up | cruise | down
  deriving DecidableEq, Repr

/-- Slew states by name, as the timing image shows them (07 R153). -/
inductive SlewName
  | hold | track | slew
  deriving DecidableEq, Repr

/-- The timing image (07 R153). -/
structure TimingImage where
  lock : LockState
  slew : SlewName
  source : Input
  standard : Option Standard
  period : Int
  fieldLength : Nat
  phaseLines : Int
  phaseSixteenths : Int
  offset : Int
  fields : Nat
  deriving DecidableEq, Repr

/-- The Reference Lock Controller (07). lastSync is the last line sync; prediction the time predicted for the next line;
nominalNext is a new nominal period against which the line after the entered one is predicted (08 R170; log 37);
entered says that the predicted line has been entered (its window has opened to a sync, or it is being decided) and
windowSync is the first sync in its window; lineTime and lineGood are the time and outcome of the last decided line; goodTime
and sinceGood are the last good line's time and the lines since; lineOut and goodOut are the output's position at the current
line's time and at the last good sync (R148); pair counts lines since the first field sync of a pair (R139); shareDue is the
controller's share of a boundary that ends the holdover (log 11). -/
structure RefLock where
  source : Input
  srcsel : Input
  broadcast : Profile
  tape : Profile
  assignA : ProfileName
  assignB : ProfileName
  setting : StandardSetting
  lock : LockState
  lastSync : Option Time
  period : Int
  prediction : Option Time
  nominalNext : Option Int
  entered : Bool
  windowSync : Option Time
  lineTime : Time
  lineGood : Bool
  goodTime : Time
  sinceGood : Nat
  lineOut : Option OutPos
  goodOut : OutPos
  goodCount : Nat
  missCount : Nat
  parityCount : Nat
  waiting : Bool
  standard : Option Standard
  field : Option RefField
  pair : Option Nat
  holdover : Nat
  fields : Nat
  phaseLines : Int
  phaseSixteenths : Int
  fieldLength : Nat
  faults : SyncFaults
  image : TimingImage
  shareDue : Bool
  deriving DecidableEq, Repr

/-! ## Raster Generator (chapter 08) -/

/-- The nine raster parameters (08 R169). -/
structure RasterParams where
  length625 : Nat
  length525 : Nat
  activeWidth : Nat
  pullLimit : Nat
  captureWindow : Nat
  rampStep : Nat
  segmentLength : Nat
  slewTimeout : Nat
  quickAlign : Bool
  deriving DecidableEq, Repr

/-- The ramp state (08 R163): stage, direction (true when the output is to gain) and the latest phase error in sixteenths. -/
structure Ramp where
  stage : RampStage
  gain : Bool
  err : Int
  deriving DecidableEq, Repr

/-- The slew state; the ramp state exists only in SLEW (08 R160, R163). -/
inductive Slew
  | hold | track | slew (r : Ramp)
  deriving DecidableEq, Repr

/-- Causes of a hard align (08 R166). -/
inductive AlignCause
  | standardChange | quickAlign | slewTimeout | alignRequest | lineLength
  deriving DecidableEq, Repr

/-- The Raster Generator (08). The position within frame line `line` is pos, in 2^-20 of a sixteenth of a pixel clock, at the
moment posTime (R156, R159; log 5); startDue says that the line's line start has not been taken (R166 item 6); width is the
active width in force since the last line start (R170); segDue and timeoutDue are a segment end and a timeout align not yet
taken (log 12, log 13); resetLow says that RASTER RESET is Low, and pulses counts its releases (R166 item 4, R171; log 17). -/
structure Raster where
  std : Standard
  line : Nat
  pos : Int
  posTime : Time
  startDue : Bool
  params : RasterParams
  width : Nat
  offset : Int
  slew : Slew
  segLines : Nat
  segDue : Bool
  timer : Nat
  timeoutDue : Bool
  resetLow : Bool
  pulses : Nat
  deriving DecidableEq, Repr

/-! ## Attention Unit (chapter 10) -/

/-- The sixteen causes, 0 to 15 in this order (10). -/
inductive Cause
  | lockChange | syncFault | rasterReset | markA | markB | countDone | cueNotify | sequencerFault
  | plateShown | plateClosed | plateStopped | motionHeld | applyFault | eviction | spanOverflow | portOverrun
  deriving DecidableEq, Repr

/-- Reasons of SEQUENCER FAULT (04 R103). -/
inductive SeqFaultReason
  | runaway | stall | missedTrigger
  deriving DecidableEq, Repr

/-- The detail of one occurrence, one constructor per cause (10). -/
inductive Detail
  | lockChange (old new : LockState)
  | syncFault (kinds : SyncFaults)
  | rasterReset (cause : AlignCause)
  | markA (f : FieldNo)
  | markB (f : FieldNo)
  | countDone
  | cueNotify (index : Byte)
  | sequencerFault (reason : SeqFaultReason) (index : CueIndex)
  | plateShown (tag : Byte)
  | plateClosed (tag : Byte)
  | plateStopped (tag : Byte)
  | motionHeld (tag blocking : Byte)
  | applyFault (kind : AmendKind) (operand : Byte) (reason : FaultReason) (origin : Origin)
  | eviction (evicted new : Byte)
  | spanOverflow (row : Nat) (f : FieldNo)
  | portOverrun
  deriving DecidableEq, Repr

/-- One cause (10 R188): pending flag, MORE flag, enable, detail latch (none: the latch is zero). -/
structure CauseState where
  pending : Bool
  more : Bool
  enable : Bool
  latch : Option Detail
  deriving DecidableEq, Repr

/-- The Attention Unit (10 R188): its sixteen causes. -/
structure Attention where
  lockChange : CauseState
  syncFault : CauseState
  rasterReset : CauseState
  markA : CauseState
  markB : CauseState
  countDone : CauseState
  cueNotify : CauseState
  sequencerFault : CauseState
  plateShown : CauseState
  plateClosed : CauseState
  plateStopped : CauseState
  motionHeld : CauseState
  applyFault : CauseState
  eviction : CauseState
  spanOverflow : CauseState
  portOverrun : CauseState
  deriving DecidableEq, Repr

/-! ## Request Port (chapter 09) -/

/-- A LIST in progress (01 R26 to R29): state set, group set, cursor (32 when it has passed slot 31), items written, and
whether it is suspended for room. -/
structure ListJob where
  armed : Bool
  shown : Bool
  closing : Bool
  groups : Byte
  cursor : Nat
  items : Nat
  suspended : Bool
  deriving DecidableEq, Repr

/-- The figures of the boundary that answers a SYNC (09 R182). -/
structure SyncFigures where
  field : FieldNo
  applied : Nat
  faulted : Nat
  deriving DecidableEq, Repr

/-- The request in progress (09 R180): none, a LIST, or a SYNC with the figures of its boundary once it has come. -/
inductive Job
  | idle | list (j : ListJob) | sync (figures : Option SyncFigures)
  deriving DecidableEq, Repr

/-- The Request Port (09). lastRead is the byte that the last read of location 0 returned (R172; log 17). -/
structure Port where
  requests : List Byte
  replies : List Byte
  rejecting : Bool
  job : Job
  lastRead : Byte
  deriving DecidableEq, Repr

/-! ## The machine -/

/-- Faults of the machine: none. The spec names no event that stops the part. -/
inductive Fault
  deriving DecidableEq, Repr

/-- Refusals of the machine. -/
inductive Refusal
  /-- Raised by exec's arm of a command that has no meaning yet. Safe: nothing is claimed of it. No arm uses it. -/
  | notModelled (mnemonic : String)
  deriving DecidableEq, Repr

/-- The state of the part: its nine blocks, and the queue of commands waiting, first in first out. -/
structure State where
  port : Port
  table : PlateTable
  keyer : Keyer
  seq : Sequencer
  scenes : Scenes
  clock : FieldClock
  rlc : RefLock
  raster : Raster
  att : Attention
  pending : List Instr
  deriving DecidableEq, Repr

/-! ## Power-on values -/

/-- The Request Port at power-on (09 R186; lastRead: log 17). -/
def Port.reset : Port :=
  { requests := [], replies := [], rejecting := false, job := .idle, lastRead := 0 }

/-- The Plate Table at power-on (01 R30). -/
def PlateTable.reset : PlateTable :=
  { slots := Vector.replicate 32 none, pinned := 0, rotation := 31, queue := [] }

/-- The Keyer at power-on (03 R78; the current line and the field number: log 26). -/
def Keyer.reset : Keyer :=
  { live := Vector.replicate 16 4, pendingLevels := Vector.replicate 16 4, fallback := .cut, visible := [], row := none,
    spans := [], decision := .zero, fieldNumber := 0 }

/-- A cue entry at power-on (04 R104): NOTHING, flags HALT alone, operand and parameter 0. -/
def CueEntry.reset : CueEntry :=
  { action := .nothing, operand := 0, parameter := 0,
    flags := { wait := false, halt := true, end_ := false, notify := false } }

/-- The Cue Sequencer at power-on (04 R104). -/
def Sequencer.reset : Sequencer :=
  { cues := Vector.replicate 128 CueEntry.reset, pointer := 0, loopStart := 0, mode := .once,
    sources := { cueIn := false, interval := false, markA := false }, state := .halted, runCount := 0, delay := 0,
    intervalsDue := 0, marksDue := 0, haltsDue := 0, expiryDue := false, resumeDue := false }

/-- An invalid scene (05 R117). -/
def Scene.empty : Scene := { valid := false, savedField := 0, images := [] }

/-- The Field Clock at power-on (06 R130). -/
def FieldClock.reset : FieldClock :=
  { counter := 0, markA := { value := 0, enable := false }, markB := { value := 0, enable := false },
    intervalLength := 0, intervalCount := 0, preset := 0, count := 0,
    select := { field := false, trigger := false, endPass := false, cueIn := false, closing := false },
    haltOnCount := false, handed := [] }

/-- No sync fault (07 R155). -/
def SyncFaults.none : SyncFaults :=
  { mismatch := false, longField := false, shortField := false, parity := false, holdover := false }

/-- The profile BROADCAST at power-on (07 R133). -/
def Profile.broadcastReset : Profile :=
  { lineWindow := 2, qualify := 32, missLimit := 8, holdover := 50, zone := 0, trackGain := 4 }

/-- The profile TAPE at power-on (07 R133). -/
def Profile.tapeReset : Profile :=
  { lineWindow := 8, qualify := 16, missLimit := 16, holdover := 250, zone := 8, trackGain := 2 }

/-- The timing image at power-on (07 R155). -/
def TimingImage.reset : TimingImage :=
  { lock := .search, slew := .hold, source := .a, standard := none, period := 0, fieldLength := 0, phaseLines := 0,
    phaseSixteenths := 0, offset := 0, fields := 0 }

/-- The Reference Lock Controller at power-on (07 R155; the line bookkeeping: log 26). -/
def RefLock.reset : RefLock :=
  { source := .a, srcsel := .a, broadcast := Profile.broadcastReset, tape := Profile.tapeReset, assignA := .broadcast,
    assignB := .tape, setting := .auto, lock := .search, lastSync := none, period := 0, prediction := none, nominalNext := none,
    entered := false, windowSync := none, lineTime := 0, lineGood := false, goodTime := 0, sinceGood := 0, lineOut := none,
    goodOut := { line := 0, p := 0 }, goodCount := 0, missCount := 0, parityCount := 0, waiting := false, standard := none,
    field := none, pair := none, holdover := 0, fields := 0, phaseLines := 0, phaseSixteenths := 0, fieldLength := 0,
    faults := SyncFaults.none, image := TimingImage.reset, shareDue := false }

/-- The raster parameters at power-on (08 R169). -/
def RasterParams.reset : RasterParams :=
  { length625 := 864, length525 := 858, activeWidth := 720, pullLimit := 256, captureWindow := 4, rampStep := 8,
    segmentLength := 16, slewTimeout := 500, quickAlign := false }

/-- The Raster Generator at power-on (08 R171): RASTER RESET has been released once. -/
def Raster.reset : Raster :=
  { std := .s625, line := 0, pos := 0, posTime := 0, startDue := true, params := RasterParams.reset, width := 720,
    offset := 0, slew := .hold, segLines := 0, segDue := false, timer := 0, timeoutDue := false, resetLow := false,
    pulses := 1 }

/-- A clear and disabled cause (10 R194). -/
def CauseState.reset : CauseState := { pending := false, more := false, enable := false, latch := none }

/-- The Attention Unit at power-on and after a soft reset (10 R194). -/
def Attention.reset : Attention :=
  { lockChange := CauseState.reset, syncFault := CauseState.reset, rasterReset := CauseState.reset,
    markA := CauseState.reset, markB := CauseState.reset, countDone := CauseState.reset, cueNotify := CauseState.reset,
    sequencerFault := CauseState.reset, plateShown := CauseState.reset, plateClosed := CauseState.reset,
    plateStopped := CauseState.reset, motionHeld := CauseState.reset, applyFault := CauseState.reset,
    eviction := CauseState.reset, spanOverflow := CauseState.reset, portOverrun := CauseState.reset }

/-- The part right after power-on (01 R30, 03 R78, 04 R104, 05 R117, 06 R130, 07 R155, 08 R171, 09 R186, 10 R194), with no
command waiting. -/
def State.reset : State :=
  { port := Port.reset, table := PlateTable.reset, keyer := Keyer.reset, seq := Sequencer.reset,
    scenes := Vector.replicate 4 Scene.empty, clock := FieldClock.reset, rlc := RefLock.reset, raster := Raster.reset,
    att := Attention.reset, pending := [] }

end Sys2Proof.Machine
end

