-- ==== Sys2Proof/Machine/Operands.lean ====
section
/-! DEFINITION. The formats section (09 R187): the request code table, the reading and checking of operand bytes, and the byte
layouts of replies. -/

namespace Sys2Proof.Machine

/-! ## The request code table -/

/-- A row of the request code table (09): code, allowed operand lengths, largest reply in bytes. -/
structure ReqInfo where
  code : Byte
  lengths : List Nat
  largest : Nat
  deriving DecidableEq, Repr

def reqSelectSource : ReqInfo := ⟨0x01#8, [1], 2⟩
def reqSetProfile : ReqInfo := ⟨0x02#8, [7], 2⟩
def reqSetInput : ReqInfo := ⟨0x03#8, [2], 2⟩
def reqSetStandard : ReqInfo := ⟨0x04#8, [1], 2⟩
def reqSetRaster : ReqInfo := ⟨0x05#8, [14], 2⟩
def reqAlignNow : ReqInfo := ⟨0x06#8, [0], 2⟩
def reqReadTiming : ReqInfo := ⟨0x07#8, [0], 19⟩
def reqSetFieldCount : ReqInfo := ⟨0x10#8, [4], 2⟩
def reqSetMark : ReqInfo := ⟨0x11#8, [6], 2⟩
def reqSetInterval : ReqInfo := ⟨0x12#8, [2], 2⟩
def reqSetCounter : ReqInfo := ⟨0x13#8, [4], 2⟩
def reqReadCounters : ReqInfo := ⟨0x14#8, [0], 10⟩
def reqPlace : ReqInfo := ⟨0x20#8, [28], 3⟩
def reqAmend : ReqInfo := ⟨0x21#8, [29], 3⟩
def reqShow : ReqInfo := ⟨0x22#8, [1], 3⟩
def reqClose : ReqInfo := ⟨0x23#8, [1], 3⟩
def reqDrop : ReqInfo := ⟨0x24#8, [1], 3⟩
def reqGroupClose : ReqInfo := ⟨0x25#8, [1], 3⟩
def reqGroupMove : ReqInfo := ⟨0x26#8, [3], 3⟩
def reqSetPinned : ReqInfo := ⟨0x27#8, [1], 3⟩
def reqQuery : ReqInfo := ⟨0x28#8, [1], 33⟩
def reqProbe : ReqInfo := ⟨0x29#8, [4], 4⟩
def reqList : ReqInfo := ⟨0x2A#8, [2], 2⟩
def reqSetLevels : ReqInfo := ⟨0x30#8, [16], 2⟩
def reqSetKeying : ReqInfo := ⟨0x31#8, [1], 2⟩
def reqWriteCues : ReqInfo := ⟨0x40#8, [5, 9, 13, 17, 21, 25, 29], 2⟩
def reqReadCues : ReqInfo := ⟨0x41#8, [2], 38⟩
def reqSetSequencer : ReqInfo := ⟨0x42#8, [3], 2⟩
def reqStart : ReqInfo := ⟨0x43#8, [0, 1], 2⟩
def reqHalt : ReqInfo := ⟨0x44#8, [0], 2⟩
def reqStep : ReqInfo := ⟨0x45#8, [0], 2⟩
def reqDoCue : ReqInfo := ⟨0x46#8, [4], 3⟩
def reqSaveScene : ReqInfo := ⟨0x50#8, [1], 8⟩
def reqRecallScene : ReqInfo := ⟨0x51#8, [1], 3⟩
def reqClearScene : ReqInfo := ⟨0x52#8, [1], 2⟩
def reqReadScenes : ReqInfo := ⟨0x53#8, [0], 26⟩
def reqSync : ReqInfo := ⟨0x60#8, [0], 2⟩
def reqSetEnables : ReqInfo := ⟨0x61#8, [2], 2⟩
def reqReadAttention : ReqInfo := ⟨0x62#8, [0], 41⟩

/-- Every row of the request code table. -/
def requestTable : List ReqInfo :=
  [reqSelectSource, reqSetProfile, reqSetInput, reqSetStandard, reqSetRaster, reqAlignNow, reqReadTiming] ++
  [reqSetFieldCount, reqSetMark, reqSetInterval, reqSetCounter, reqReadCounters] ++
  [reqPlace, reqAmend, reqShow, reqClose, reqDrop, reqGroupClose, reqGroupMove, reqSetPinned, reqQuery, reqProbe, reqList] ++
  [reqSetLevels, reqSetKeying] ++
  [reqWriteCues, reqReadCues, reqSetSequencer, reqStart, reqHalt, reqStep, reqDoCue] ++
  [reqSaveScene, reqRecallScene, reqClearScene, reqReadScenes, reqSync, reqSetEnables, reqReadAttention]

/-- The code byte is a request code of the table (09 R178, order 1). -/
def knownCode (c : Byte) : Bool := requestTable.any fun r => r.code == c

/-! ## Reply codes -/

def replyOk : Byte := 0x00#8
def replyQueued : Byte := 0x01#8
def replyData : Byte := 0x02#8
def replyListItem : Byte := 0x03#8
def replyListEnd : Byte := 0x04#8
def replyFieldReport : Byte := 0x05#8
def replyBadRequest : Byte := 0x80#8
def replyBadLength : Byte := 0x81#8
def replyBadOperand : Byte := 0x82#8
def replyQueueFull : Byte := 0x83#8
def replyNotFound : Byte := 0x84#8
def replySequencerActive : Byte := 0x85#8
def replySceneEmpty : Byte := 0x86#8
def replyNoReference : Byte := 0x87#8

/-! ## Reading operand bytes (least significant byte first, two's complement) -/

def opByte (ops : List Byte) (i : Nat) : Byte := ops.getD i 0
def op8 (ops : List Byte) (i : Nat) : Nat := (opByte ops i).toNat
def op16 (ops : List Byte) (i : Nat) : Nat := op8 ops i + 256 * op8 ops (i + 1)
def op32 (ops : List Byte) (i : Nat) : FieldNo := BitVec.ofNat 32 (op16 ops i + 65536 * op16 ops (i + 2))
def sop8 (ops : List Byte) (i : Nat) : Int := (opByte ops i).toInt
def sop16 (ops : List Byte) (i : Nat) : Int := (BitVec.ofNat 16 (op16 ops i)).toInt

/-! ## Range checks of 01 R4, 02 R34 -/

def tagOk (t : Byte) : Bool := t != 0 && t != 255
def coordOk (x : Int) : Bool := Config.coordMin ≤ x && x ≤ Config.coordMax
def heightOk (n : Nat) : Bool := 1 ≤ n && n ≤ 576
def widthOk (n : Nat) : Bool := 1 ≤ n && n ≤ 1024
def rowRateOk (x : Int) : Bool := -16 ≤ x && x ≤ 15
def colRateOk (x : Int) : Bool := -32 ≤ x && x ≤ 31

/-- A transparent index: 0 to 15, or the absence marker 10H (09 R187). -/
def transOk (n : Nat) : Bool := n ≤ 16
def transOf (n : Nat) : Option Nat := if n = 16 then none else some n

/-- A stop: a coordinate, or the absence marker 8000H (09 R187). -/
def stopOk (raw : Nat) (x : Int) : Bool := raw == 0x8000 || coordOk x
def stopOf (raw : Nat) (x : Int) : Option Int := if raw = 0x8000 then none else some x

def notifyOf (b : Byte) : NotifySet :=
  { shown := b.getLsbD 0, closed := b.getLsbD 1, stopped := b.getLsbD 2 }

def keyModeOf (bit : Bool) : KeyMode := if bit then .index else .box

/-! ## PLACE (28 operand bytes) -/

/-- Start mode code in bits 1–2 of byte 3. -/
def placeStartCode (ops : List Byte) : Nat := (op8 ops 3 / 2) % 4

/-- Every operand of a PLACE carries a defined encoding and lies in range (02 R34; 01 R6 for the start field). -/
def placeOk (ops : List Byte) : Bool :=
  (op8 ops 0 ≤ 31 || op8 ops 0 == 255) && tagOk (opByte ops 1) &&
  !(opByte ops 2).getLsbD 3 && !(opByte ops 2).getLsbD 6 && !(opByte ops 2).getLsbD 7 &&
  !(opByte ops 3).getLsbD 6 && !(opByte ops 3).getLsbD 7 &&
  placeStartCode ops ≤ 2 && ((opByte ops 3).getLsbD 3 == (placeStartCode ops == 1)) &&
  transOk (op8 ops 4) && op8 ops 5 ≤ 16 && op8 ops 6 ≤ 15 &&
  rowRateOk (sop8 ops 13) && colRateOk (sop8 ops 14) && coordOk (sop16 ops 15) && coordOk (sop16 ops 17) &&
  heightOk (op16 ops 19) && widthOk (op16 ops 21) &&
  stopOk (op16 ops 23) (sop16 ops 23) && stopOk (op16 ops 25) (sop16 ops 25) && op8 ops 27 ≤ 7

/-- The slot operand of a PLACE: none is ANY (01 R19). -/
def placeSlot (ops : List Byte) : Option Slot :=
  if h : op8 ops 0 < 32 then some ⟨op8 ops 0, h⟩ else none

/-- The plate image of a PLACE: every host field (02 R32). -/
def placeFields (ops : List Byte) : HostFields :=
  { tag := opByte ops 1
    group := op8 ops 2 % 8
    layer := (op8 ops 2 / 16) % 4
    top := sop16 ops 15
    left := sop16 ops 17
    height := op16 ops 19
    width := op16 ops 21
    keyMode := keyModeOf ((opByte ops 3).getLsbD 0)
    transIndex := transOf (op8 ops 4)
    mixTarget := op8 ops 5
    fadeStep := op8 ops 6
    start := match placeStartCode ops with
      | 0 => .now
      | 1 => .atField (op32 ops 7)
      | _ => .onCue
    lifetime := op16 ops 11
    rowRate := sop8 ops 13
    colRate := sop8 ops 14
    stopRow := stopOf (op16 ops 23) (sop16 ops 23)
    stopCol := stopOf (op16 ops 25) (sop16 ops 25)
    notify := notifyOf (opByte ops 27)
    holdInSlew := (opByte ops 3).getLsbD 4
    closeAtStop := (opByte ops 3).getLsbD 5 }

/-! ## AMEND (29 operand bytes) -/

/-- The 24-bit field-select set in bytes 1 to 3. -/
def amendSelect (ops : List Byte) : Nat := op16 ops 1 + 65536 * op8 ops 3

/-- The field-select set names the field of position k. -/
def amendHas (ops : List Byte) (k : Nat) : Bool := (amendSelect ops).testBit k

/-- The check of an AMEND (02 R35): the tag, a field-select set that is not empty and whose bits 18 to 23 are zero, and the
value of each selected field; the value positions of the others are not checked. -/
def amendOk (ops : List Byte) : Bool :=
  tagOk (opByte ops 0) && amendSelect ops != 0 && decide (amendSelect ops < 262144) &&
  (!amendHas ops 0 || op8 ops 4 ≤ 7) && (!amendHas ops 1 || op8 ops 5 ≤ 3) &&
  (!amendHas ops 2 || coordOk (sop16 ops 6)) && (!amendHas ops 3 || coordOk (sop16 ops 8)) &&
  (!amendHas ops 4 || heightOk (op16 ops 10)) && (!amendHas ops 5 || widthOk (op16 ops 12)) &&
  (!amendHas ops 6 || op8 ops 14 ≤ 1) && (!amendHas ops 7 || transOk (op8 ops 15)) &&
  (!amendHas ops 8 || op8 ops 28 ≤ 16) && (!amendHas ops 9 || op8 ops 16 ≤ 15) &&
  (!amendHas ops 11 || rowRateOk (sop8 ops 19)) && (!amendHas ops 12 || colRateOk (sop8 ops 20)) &&
  (!amendHas ops 13 || stopOk (op16 ops 21) (sop16 ops 21)) &&
  (!amendHas ops 14 || stopOk (op16 ops 23) (sop16 ops 23)) &&
  (!amendHas ops 15 || op8 ops 25 ≤ 7) && (!amendHas ops 16 || op8 ops 26 ≤ 1) && (!amendHas ops 17 || op8 ops 27 ≤ 1)

/-- The value v when the field of position k is selected. -/
def amendPick {α : Type} (ops : List Byte) (k : Nat) (v : α) : Option α := if amendHas ops k then some v else none

/-- The selected fields of an AMEND with their values (09, AMEND operand). -/
def amendFields (ops : List Byte) : FieldSelect :=
  { group := amendPick ops 0 (op8 ops 4)
    layer := amendPick ops 1 (op8 ops 5)
    top := amendPick ops 2 (sop16 ops 6)
    left := amendPick ops 3 (sop16 ops 8)
    height := amendPick ops 4 (op16 ops 10)
    width := amendPick ops 5 (op16 ops 12)
    keyMode := amendPick ops 6 (keyModeOf ((opByte ops 14).getLsbD 0))
    transIndex := amendPick ops 7 (transOf (op8 ops 15))
    mixTarget := amendPick ops 8 (op8 ops 28)
    fadeStep := amendPick ops 9 (op8 ops 16)
    lifetime := amendPick ops 10 (op16 ops 17)
    rowRate := amendPick ops 11 (sop8 ops 19)
    colRate := amendPick ops 12 (sop8 ops 20)
    stopRow := amendPick ops 13 (stopOf (op16 ops 21) (sop16 ops 21))
    stopCol := amendPick ops 14 (stopOf (op16 ops 23) (sop16 ops 23))
    notify := amendPick ops 15 (notifyOf (opByte ops 25))
    holdInSlew := amendPick ops 16 ((opByte ops 26).getLsbD 0)
    closeAtStop := amendPick ops 17 ((opByte ops 27).getLsbD 0) }

/-! ## Other operands -/

def inputOf (n : Nat) : Input := if n = 0 then .a else .b
def profileOf (n : Nat) : ProfileName := if n = 0 then .broadcast else .tape

def settingOf (n : Nat) : StandardSetting :=
  match n with
  | 0 => .auto
  | 1 => .only625
  | _ => .only525

def fallbackOf (n : Nat) : Fallback :=
  match n with
  | 0 => .cut
  | 1 => .full
  | _ => .keep

/-- SET PROFILE (07 R133, R134). -/
def profileOk (ops : List Byte) : Bool :=
  op8 ops 0 ≤ 1 && 1 ≤ op8 ops 1 && op8 ops 1 ≤ 31 && 8 ≤ op8 ops 2 && 1 ≤ op8 ops 3 && op8 ops 3 ≤ 63 &&
  op8 ops 5 ≤ 15 && op8 ops 6 ≤ 7

def profileFields (ops : List Byte) : Profile :=
  { lineWindow := op8 ops 1, qualify := op8 ops 2, missLimit := op8 ops 3, holdover := op8 ops 4, zone := op8 ops 5,
    trackGain := op8 ops 6 }

/-- SET RASTER (08 R169). -/
def rasterOk (ops : List Byte) : Bool :=
  640 ≤ op16 ops 0 && op16 ops 0 ≤ 1023 && 640 ≤ op16 ops 2 && op16 ops 2 ≤ 1023 &&
  512 ≤ op16 ops 4 && op16 ops 4 ≤ 960 && op16 ops 4 + 64 ≤ op16 ops 0 && op16 ops 4 + 64 ≤ op16 ops 2 &&
  1 ≤ op16 ops 6 && op16 ops 6 ≤ 4095 && 1 ≤ op8 ops 8 && 1 ≤ op8 ops 9 && 1 ≤ op8 ops 10 && op8 ops 13 ≤ 1

def rasterFields (ops : List Byte) : RasterParams :=
  { length625 := op16 ops 0, length525 := op16 ops 2, activeWidth := op16 ops 4, pullLimit := op16 ops 6,
    captureWindow := op8 ops 8, rampStep := op8 ops 9, segmentLength := op8 ops 10, slewTimeout := op16 ops 11,
    quickAlign := op8 ops 13 == 1 }

def selectOf (b : Byte) : EventSelect :=
  { field := b.getLsbD 0, trigger := b.getLsbD 1, endPass := b.getLsbD 2, cueIn := b.getLsbD 3, closing := b.getLsbD 4 }

def sourcesOf (b : Byte) : TriggerSources :=
  { cueIn := b.getLsbD 0, interval := b.getLsbD 1, markA := b.getLsbD 2 }

/-! ## Cue entries (4 bytes) -/

def cueActionOf (n : Nat) : CueAction :=
  match n with
  | 0 => .nothing
  | 1 => .showPlate
  | 2 => .close
  | 3 => .drop
  | 4 => .mix
  | 5 => .groupClose
  | 6 => .groupMove
  | 7 => .recall
  | _ => .delay

def cueActionCode : CueAction → Nat
  | .nothing => 0
  | .showPlate => 1
  | .close => 2
  | .drop => 3
  | .mix => 4
  | .groupClose => 5
  | .groupMove => 6
  | .recall => 7
  | .delay => 8

/-- The cue entry at byte i (09, cue entry). -/
def cueEntryAt (ops : List Byte) (i : Nat) : CueEntry :=
  { action := cueActionOf (op8 ops i % 16)
    operand := opByte ops (i + 1)
    parameter := BitVec.ofNat 16 (op16 ops (i + 2))
    flags := { wait := (opByte ops i).getLsbD 4, halt := (opByte ops i).getLsbD 5, end_ := (opByte ops i).getLsbD 6,
               notify := (opByte ops i).getLsbD 7 } }

/-- The used operand and parameter lie in the range of 04 R80; no DELAY has parameter 0. -/
def CueEntry.inRange (e : CueEntry) : Bool :=
  match e.action with
  | .nothing => true
  | .showPlate => tagOk e.operand
  | .close => tagOk e.operand
  | .drop => tagOk e.operand
  | .mix => tagOk e.operand && decide (e.parameter.toNat ≤ 16)
  | .groupClose => decide (e.operand.toNat ≤ 7)
  | .groupMove => decide (e.operand.toNat ≤ 7)
  | .recall => decide (e.operand.toNat ≤ 3)
  | .delay => e.parameter != 0

/-- A cue entry's action is known and its operands are in range (04 R82, order 1). -/
def cueOk (ops : List Byte) (i : Nat) : Bool := decide (op8 ops i % 16 ≤ 8) && (cueEntryAt ops i).inRange

/-- The row and column displacement of a GROUP MOVE cue: signed low and high byte of the parameter. -/
def CueEntry.rowMove (e : CueEntry) : Int := (e.parameter.extractLsb' 0 8).toInt
def CueEntry.colMove (e : CueEntry) : Int := (e.parameter.extractLsb' 8 8).toInt

/-- The amendment a cue's action posts, none for NOTHING and DELAY (04 R80). -/
def CueEntry.amendment? (e : CueEntry) : Option AmendOp :=
  match e.action with
  | .nothing => none
  | .showPlate => some (.showPlate e.operand)
  | .close => some (.close e.operand)
  | .drop => some (.drop e.operand)
  | .mix => some (.mix e.operand e.parameter.toNat)
  | .groupClose => some (.groupClose e.operand.toNat)
  | .groupMove => some (.groupMove e.operand.toNat e.rowMove e.colMove)
  | .recall => some (.recall (Fin.ofNat 4 e.operand.toNat))
  | .delay => none

/-! ## Bytes of replies -/

def byteOf (n : Nat) : Byte := BitVec.ofNat 8 n
def byteOfInt (x : Int) : Byte := BitVec.ofInt 8 x
def le16 (n : Nat) : List Byte := [BitVec.ofNat 8 n, BitVec.ofNat 8 (n / 256)]
def le16i (x : Int) : List Byte := le16 (BitVec.ofInt 16 x).toNat
def le32 (f : FieldNo) : List Byte := le16 (f.toNat % 65536) ++ le16 (f.toNat / 65536)

def bitVal (b : Bool) (k : Nat) : Nat := if b then 2 ^ k else 0

def plateStateCode : PlateState → Nat
  | .armed => 0
  | .shown => 1
  | .closing => 2

def startCode : StartMode → Nat
  | .now => 0
  | .atField _ => 1
  | .onCue => 2

def startPresent : StartMode → Bool
  | .atField _ => true
  | .now => false
  | .onCue => false

def startBytes : StartMode → List Byte
  | .atField f => le32 f
  | .now => le32 0
  | .onCue => le32 0

def keyModeCode : KeyMode → Nat
  | .box => 0
  | .index => 1

def notifyCode (n : NotifySet) : Nat := bitVal n.shown 0 + bitVal n.closed 1 + bitVal n.stopped 2

def stopBytes : Option Int → List Byte
  | none => le16 0x8000
  | some x => le16i x

/-- The plate record of 30 bytes (09 R187), read from slot i in the field f. -/
def plateRecord (i : Slot) (f : FieldNo) (p : Plate) : List Byte :=
  [byteOf (i.val + 32 * plateStateCode p.state + bitVal p.held 7)] ++ le32 f ++
  [p.tag,
   byteOf (p.group + 8 * p.layer + 32 * keyModeCode p.keyMode + bitVal p.holdInSlew 6 + bitVal p.closeAtStop 7),
   byteOf (p.mixTarget + 32 * startCode p.start + bitVal (startPresent p.start) 7),
   byteOf (p.mix + 32 * notifyCode p.notify),
   byteOf (p.transIndex.getD 16),
   byteOf (p.fadeStep + 16 * p.fadePhase)] ++
  startBytes p.start ++ le16 p.lifetime ++ [byteOfInt p.rowRate, byteOfInt p.colRate] ++
  le16i p.top ++ le16i p.left ++
  [byteOf p.height, byteOf p.width, byteOf (p.height / 256 + 16 * (p.width / 256))] ++
  stopBytes p.stopRow ++ stopBytes p.stopCol

/-- A cue entry's 4 bytes (09). -/
def cueEntryBytes (e : CueEntry) : List Byte :=
  [byteOf (cueActionCode e.action + bitVal e.flags.wait 4 + bitVal e.flags.halt 5 + bitVal e.flags.end_ 6 +
     bitVal e.flags.notify 7), e.operand] ++ le16 e.parameter.toNat

def seqStateCode : SeqState → Nat
  | .halted => 0
  | .waiting => 1
  | .running => 2
  | .stalled => 3
  | .delaying => 4

def seqModeCode : SeqMode → Nat
  | .once => 0
  | .loop => 1

/-- The sequencer's status block of 8 bytes (04 R83; 09): the delay remaining is 0 outside DELAYING. -/
def seqStatus (q : Sequencer) : List Byte :=
  [byteOf (seqStateCode q.state), byteOf q.pointer.val, byteOf q.loopStart.val, byteOf (seqModeCode q.mode),
   byteOf (bitVal q.sources.cueIn 0 + bitVal q.sources.interval 1 + bitVal q.sources.markA 2), byteOf q.runCount] ++
  le16 (if q.state = .delaying then q.delay else 0)

def inputCode : Input → Nat
  | .a => 0
  | .b => 1

def lockCode : LockState → Nat
  | .search => 0
  | .lineLock => 1
  | .frameLock => 2
  | .flywheel => 3

def slewCode : SlewName → Nat
  | .hold => 0
  | .track => 1
  | .slew => 2

def standardCode : Option Standard → Nat
  | none => 0
  | some .s625 => 1
  | some .s525 => 2

def SyncFaults.code (f : SyncFaults) : Nat :=
  bitVal f.mismatch 0 + bitVal f.longField 1 + bitVal f.shortField 2 + bitVal f.parity 3 + bitVal f.holdover 4

/-- The READ TIMING body of 17 bytes (09): the timing image and the sync-fault set. -/
def timingBody (g : TimingImage) (f : SyncFaults) : List Byte :=
  [byteOf (lockCode g.lock), byteOf (slewCode g.slew), byteOf (inputCode g.source), byteOf (standardCode g.standard)] ++
  le16i g.period ++ le16 g.fieldLength ++ le16i g.phaseLines ++ le16i g.phaseSixteenths ++ le16i g.offset ++
  le16 g.fields ++ [byteOf f.code]

/-- One scene's 6 bytes in READ SCENES (05 R110). -/
def sceneBytes (c : Scene) : List Byte :=
  [byteOf (bitVal c.valid 0), byteOf c.images.length] ++ le32 c.savedField

def alignCode : AlignCause → Nat
  | .standardChange => 0
  | .quickAlign => 1
  | .slewTimeout => 2
  | .alignRequest => 3
  | .lineLength => 4

def seqFaultCode : SeqFaultReason → Nat
  | .runaway => 0
  | .stall => 1
  | .missedTrigger => 2

def amendKindCode : AmendKind → Nat
  | .place => 0
  | .amend => 1
  | .showPlate => 2
  | .close => 3
  | .drop => 4
  | .mix => 5
  | .groupClose => 6
  | .groupMove => 7
  | .setPinned => 8
  | .recall => 9

def faultReasonCode : FaultReason → Nat
  | .tagInUse => 1
  | .slotInUse => 2
  | .tableFull => 3
  | .overlap => 4
  | .range => 5
  | .noSuchTag => 6
  | .closing => 7
  | .notArmed => 8
  | .sceneEmpty => 9
  | .sceneTooLarge => 10
  | .sceneConflict => 11

def originBytes : Origin → List Byte
  | .request => [0x00#8, 0xFF#8]
  | .cue i => [0x01#8, byteOf i.val]

/-- The latch bytes of an occurrence (09, Attention bit positions and READ ATTENTION). -/
def Detail.bytes : Detail → List Byte
  | .lockChange old new => [byteOf (lockCode old), byteOf (lockCode new)]
  | .syncFault k => [byteOf k.code]
  | .rasterReset c => [byteOf (alignCode c)]
  | .markA f => le32 f
  | .markB f => le32 f
  | .countDone => []
  | .cueNotify i => [i]
  | .sequencerFault r i => [byteOf (seqFaultCode r), byteOf i.val]
  | .plateShown t => [t]
  | .plateClosed t => [t]
  | .plateStopped t => [t]
  | .motionHeld t b => [t, b]
  | .applyFault k o r g => [byteOf (amendKindCode k), o, byteOf (faultReasonCode r)] ++ originBytes g
  | .eviction a b => [a, b]
  | .spanOverflow r f => le16 r ++ le32 f
  | .portOverrun => []

/-- How many bytes each cause's latch takes (09). -/
def Cause.latchSize : Cause → Nat
  | .lockChange => 2
  | .syncFault => 1
  | .rasterReset => 1
  | .markA => 4
  | .markB => 4
  | .countDone => 0
  | .cueNotify => 1
  | .sequencerFault => 2
  | .plateShown => 1
  | .plateClosed => 1
  | .plateStopped => 1
  | .motionHeld => 2
  | .applyFault => 5
  | .eviction => 2
  | .spanOverflow => 6
  | .portOverrun => 0

/-! ## What an amendment reports -/

def AmendOp.kind : AmendOp → AmendKind
  | .place _ _ => .place
  | .amend _ _ => .amend
  | .showPlate _ => .showPlate
  | .close _ => .close
  | .drop _ => .drop
  | .mix _ _ => .mix
  | .groupClose _ => .groupClose
  | .groupMove _ _ _ => .groupMove
  | .setPinned _ => .setPinned
  | .recall _ => .recall

/-- The operand item of an APPLY FAULT (02 R39): the tag, the group or the scene. SET PINNED has no fault; its boundary stands
here. -/
def AmendOp.operand : AmendOp → Byte
  | .place _ h => h.tag
  | .amend t _ => t
  | .showPlate t => t
  | .close t => t
  | .drop t => t
  | .mix t _ => t
  | .groupClose g => byteOf g
  | .groupMove g _ _ => byteOf g
  | .setPinned p => byteOf p
  | .recall c => byteOf c.val

/-- The tag an amendment names, if any (01 R24). -/
def AmendOp.names? : AmendOp → Option Byte
  | .place _ h => some h.tag
  | .amend t _ => some t
  | .showPlate t => some t
  | .close t => some t
  | .drop t => some t
  | .mix t _ => some t
  | .groupClose _ => none
  | .groupMove _ _ _ => none
  | .setPinned _ => none
  | .recall _ => none

/-- The number of queued amendments that name the tag (01 R24). -/
def queuedNaming (q : List Amendment) (tag : Byte) : Nat := (q.filter fun a => a.op.names? == some tag).length

end Sys2Proof.Machine
end

