-- ==== Sys2Proof/Machine/Flags.lean ====
section
/-! DEFINITION. The Attention Unit's flags (chapter 10), the port's status byte and pending bytes (09 R172, R173), INT. -/

namespace Sys2Proof.Machine

/-- The cause of an occurrence. -/
def Detail.cause : Detail → Cause
  | .lockChange _ _ => .lockChange
  | .syncFault _ => .syncFault
  | .rasterReset _ => .rasterReset
  | .markA _ => .markA
  | .markB _ => .markB
  | .countDone => .countDone
  | .cueNotify _ => .cueNotify
  | .sequencerFault _ _ => .sequencerFault
  | .plateShown _ => .plateShown
  | .plateClosed _ => .plateClosed
  | .plateStopped _ => .plateStopped
  | .motionHeld _ _ => .motionHeld
  | .applyFault _ _ _ _ => .applyFault
  | .eviction _ _ => .eviction
  | .spanOverflow _ _ => .spanOverflow
  | .portOverrun => .portOverrun

/-- The causes in number order, 0 to 15 (10). -/
def allCauses : List Cause :=
  [.lockChange, .syncFault, .rasterReset, .markA, .markB, .countDone, .cueNotify, .sequencerFault] ++
  [.plateShown, .plateClosed, .plateStopped, .motionHeld, .applyFault, .eviction, .spanOverflow, .portOverrun]

/-- The number of a cause (10). -/
def Cause.number : Cause → Nat
  | .lockChange => 0
  | .syncFault => 1
  | .rasterReset => 2
  | .markA => 3
  | .markB => 4
  | .countDone => 5
  | .cueNotify => 6
  | .sequencerFault => 7
  | .plateShown => 8
  | .plateClosed => 9
  | .plateStopped => 10
  | .motionHeld => 11
  | .applyFault => 12
  | .eviction => 13
  | .spanOverflow => 14
  | .portOverrun => 15

/-- The state of one cause. -/
def Attention.get (a : Attention) : Cause → CauseState
  | .lockChange => a.lockChange
  | .syncFault => a.syncFault
  | .rasterReset => a.rasterReset
  | .markA => a.markA
  | .markB => a.markB
  | .countDone => a.countDone
  | .cueNotify => a.cueNotify
  | .sequencerFault => a.sequencerFault
  | .plateShown => a.plateShown
  | .plateClosed => a.plateClosed
  | .plateStopped => a.plateStopped
  | .motionHeld => a.motionHeld
  | .applyFault => a.applyFault
  | .eviction => a.eviction
  | .spanOverflow => a.spanOverflow
  | .portOverrun => a.portOverrun

/-- Replace the state of one cause. -/
def Attention.set (a : Attention) (v : CauseState) : Cause → Attention
  | .lockChange => { a with lockChange := v }
  | .syncFault => { a with syncFault := v }
  | .rasterReset => { a with rasterReset := v }
  | .markA => { a with markA := v }
  | .markB => { a with markB := v }
  | .countDone => { a with countDone := v }
  | .cueNotify => { a with cueNotify := v }
  | .sequencerFault => { a with sequencerFault := v }
  | .plateShown => { a with plateShown := v }
  | .plateClosed => { a with plateClosed := v }
  | .plateStopped => { a with plateStopped := v }
  | .motionHeld => { a with motionHeld := v }
  | .applyFault => { a with applyFault := v }
  | .eviction => { a with eviction := v }
  | .spanOverflow => { a with spanOverflow := v }
  | .portOverrun => { a with portOverrun := v }

/-- One cause takes an occurrence (10 R188): a clear cause becomes pending and latches the detail, a pending one sets MORE. -/
def CauseState.occur (c : CauseState) (d : Detail) : CauseState :=
  if c.pending then { c with more := true } else { c with pending := true, latch := some d }

/-- Clearing a cause: pending, MORE and latch; the enable is kept (10 R190). -/
def CauseState.cleared (c : CauseState) : CauseState :=
  { c with pending := false, more := false, latch := none }

/-- The unit takes one occurrence (10 R188). -/
def Attention.occur (a : Attention) (d : Detail) : Attention := a.set ((a.get d.cause).occur d) d.cause

/-- The unit takes several occurrences in order (10 R189). -/
def Attention.occurAll (a : Attention) (ds : List Detail) : Attention := ds.foldl Attention.occur a

/-- Clear one cause (10 R190). -/
def Attention.clear (a : Attention) (c : Cause) : Attention := a.set (a.get c).cleared c

/-- Clear each cause whose bit is 1 in the 16-bit number (10 R190). -/
def Attention.clearBits (a : Attention) (bits : Nat) : Attention :=
  allCauses.foldl (fun acc c => if bits.testBit c.number then acc.clear c else acc) a

/-- Replace the whole enable set by the bits of a 16-bit number (10 R191). -/
def Attention.setEnables (a : Attention) (bits : Nat) : Attention :=
  allCauses.foldl (fun acc c => acc.set { acc.get c with enable := bits.testBit c.number } c) a

/-- The 16-bit set of the causes that satisfy f, cause n as bit n (09). -/
def Attention.bits (a : Attention) (f : CauseState → Bool) : Nat :=
  (allCauses.map fun c => bitVal (f (a.get c)) c.number).sum

/-- The bytes of a cause's latch; a clear latch reads as zeros (10 R193). -/
def Attention.latchBytes (a : Attention) (c : Cause) : List Byte :=
  match (a.get c).latch with
  | some d => d.bytes
  | none => List.replicate c.latchSize 0

/-- The READ ATTENTION body of 39 bytes (10 R193). -/
def Attention.body (a : Attention) : List Byte :=
  le16 (a.bits (·.pending)) ++ le16 (a.bits (·.more)) ++ le16 (a.bits (·.enable)) ++ allCauses.flatMap a.latchBytes

/-- INT is asserted while a cause is pending and enabled (10 R192). -/
def Attention.int (a : Attention) : Bool := allCauses.any fun c => (a.get c).pending && (a.get c).enable

/-- A LIST or a SYNC is in progress (09 R180). -/
def Job.busy : Job → Bool
  | .idle => false
  | .list _ => true
  | .sync _ => true

/-- Free bytes of the reply FIFO (09 R177). -/
def Port.room (p : Port) : Nat := Config.replyFifoSize - p.replies.length

/-- The port status byte (09 R173). -/
def State.statusByte (s : State) : Byte :=
  byteOf (bitVal s.port.job.busy 0 + bitVal (!s.port.replies.isEmpty) 1 +
    bitVal (decide (Config.roomBytes ≤ Config.requestFifoSize - s.port.requests.length)) 2 + bitVal s.port.rejecting 3 +
    bitVal s.att.int 4)

/-- What a read of location 2 returns: the pending flags of causes 0 to 7 (09 R172). -/
def State.location2 (s : State) : Byte := byteOf (s.att.bits (·.pending))

/-- What a read of location 3 returns: the pending flags of causes 8 to 15 (09 R172). -/
def State.location3 (s : State) : Byte := byteOf (s.att.bits (·.pending) / 256)

/-- TALLY is High while the latched visible set holds a plate (03 R65). -/
def State.tally (s : State) : Bool := !s.keyer.visible.isEmpty

/-- The emptiness of a sync-fault set, union, and the kinds of g that f lacks (07 R152). -/
def SyncFaults.isEmpty (f : SyncFaults) : Bool := !f.mismatch && !f.longField && !f.shortField && !f.parity && !f.holdover

def SyncFaults.union (f g : SyncFaults) : SyncFaults :=
  { mismatch := f.mismatch || g.mismatch, longField := f.longField || g.longField,
    shortField := f.shortField || g.shortField, parity := f.parity || g.parity, holdover := f.holdover || g.holdover }

def SyncFaults.newIn (f g : SyncFaults) : SyncFaults :=
  { mismatch := g.mismatch && !f.mismatch, longField := g.longField && !f.longField,
    shortField := g.shortField && !f.shortField, parity := g.parity && !f.parity, holdover := g.holdover && !f.holdover }

end Sys2Proof.Machine
end

