-- ==== Sys2Proof/Machine/TableOps.lean ====
section
/-! DEFINITION. The Plate Table's work at a field boundary (chapters 01, 02 and 05): applying the queue, the advance, the rotation
step. Every function here is over plain table data; Ops.lean places the result in the state. -/

namespace Sys2Proof.Machine

/-! ## Slots -/

/-- What slot i holds. -/
def slotAt (ts : Slots) (i : Slot) : Option Plate := ts.get i

/-- The table with slot i replaced. -/
def putSlot (ts : Slots) (i : Slot) (v : Option Plate) : Slots := ts.set i.val v i.isLt

/-- The table with every slot rewritten by f. -/
def mapSlots (f : Slot → Option Plate → Option Plate) (ts : Slots) : Slots :=
  ⟨(allSlots.map fun i => f i (slotAt ts i)).toArray, by simp [allSlots]⟩

/-- The slot of the live plate that carries the tag; there is at most one (01 R9). -/
def findTag (ts : Slots) (tag : Byte) : Option Slot := allSlots.find? fun i => (slotAt ts i).any fun p => p.tag == tag

/-- The lowest FREE slot at or above P (01 R19). -/
def lowestFree (ts : Slots) (pinned : Nat) : Option Slot :=
  allSlots.find? fun i => decide (pinned ≤ i.val) && (slotAt ts i).isNone

/-! ## Rectangles and field numbers -/

/-- Two ranges t to t + n - 1 and u to u + m - 1 meet (01 R12). -/
def rangesMeet (t : Int) (n : Nat) (u : Int) (m : Nat) : Bool := decide (t ≤ u + m - 1) && decide (u ≤ t + n - 1)

/-- Two records lie on one layer and their rectangles share a position (01 R12). -/
def HostFields.meets (a b : HostFields) : Bool :=
  a.layer == b.layer && rangesMeet a.top a.height b.top b.height && rangesMeet a.left a.width b.left b.width

/-- The lowest slot outside `skip` whose live plate shares a position with the record on its layer (01 R12, 02 R58). -/
def firstHit (ts : Slots) (skip : Slot → Bool) (h : HostFields) : Option Slot :=
  allSlots.find? fun i => !skip i && (slotAt ts i).any fun p => p.toHostFields.meets h

/-- F is at or before G (06 R118): G - F modulo 2^32 lies between 0 and 2^31 - 1. -/
def atOrBefore (f g : FieldNo) : Bool := decide ((g - f).toNat < 2147483648)

/-! ## Work of one boundary -/

/-- The table while a boundary is taken: its state, whether a SET PINNED was applied, the occurrences so far in order, the
closings (02 R51) and the counts of 02 R39. -/
structure TableWork where
  slots : Slots
  pinned : Nat
  rotation : Slot
  pinnedSet : Bool
  notices : List Detail
  closings : Nat
  applied : Nat
  faulted : Nat
  deriving DecidableEq, Repr

/-- The work at the start of a boundary. -/
def startWork (t : PlateTable) : TableWork :=
  { slots := t.slots, pinned := t.pinned, rotation := t.rotation, pinnedSet := false, notices := [], closings := 0,
    applied := 0, faulted := 0 }

/-- The rotation index one step down, wrapping to 31 below P (01 R17). -/
def rotationStep (pinned : Nat) (rot : Slot) : Slot :=
  if rot.val ≤ pinned then 31 else ⟨rot.val - 1, by omega⟩

/-- PLATE SHOWN for a plate whose notify set holds SHOWN (01 R8). -/
def shownNotice (h : HostFields) : List Detail := if h.notify.shown then [.plateShown h.tag] else []

/-- PLATE CLOSED for a plate whose notify set holds CLOSED (01 R8, 02 R51). -/
def closedNotice (h : HostFields) : List Detail := if h.notify.closed then [.plateClosed h.tag] else []

/-- PLATE STOPPED for a plate whose notify set holds STOPPED (01 R8, 02 R59). -/
def stoppedNotice (h : HostFields) : List Detail := if h.notify.stopped then [.plateStopped h.tag] else []

/-- Current mix of a plate that becomes SHOWN (02 R41, R44, R53). -/
def shownMix (h : HostFields) : Nat := if h.fadeStep = 0 then h.mixTarget else 0

/-- Write slot i and add occurrences. -/
def TableWork.write (w : TableWork) (i : Slot) (v : Option Plate) (ds : List Detail) : TableWork :=
  { w with slots := putSlot w.slots i v, notices := w.notices ++ ds }

/-- Free slot i as a closing (02 R51). -/
def TableWork.closeFree (w : TableWork) (i : Slot) (p : Plate) : TableWork :=
  { w with slots := putSlot w.slots i none, notices := w.notices ++ closedNotice p.toHostFields, closings := w.closings + 1 }

/-! ## PLACE (01 R19 to R21, 02 R41) -/

/-- The start mode makes the new plate SHOWN in the field f (02 R41). -/
def startsShown (m : StartMode) (f : FieldNo) : Bool :=
  match m with
  | .now => true
  | .atField g => atOrBefore g f
  | .onCue => false

/-- The plate that a PLACE creates at the boundary carrying f (02 R41). -/
def createPlate (f : FieldNo) (h : HostFields) : Plate :=
  if startsShown h.start f then
    { toHostFields := h, state := .shown, mix := shownMix h, fadePhase := 0, held := false, new := true }
  else
    { toHostFields := h, state := .armed, mix := 0, fadePhase := 0, held := false, new := true }

/-- The occurrences of the creation: PLATE SHOWN when it is created SHOWN and notified. -/
def createNotice (f : FieldNo) (h : HostFields) : List Detail := if startsShown h.start f then shownNotice h else []

/-- An explicit PLACE (01 R21). -/
def applyPlaceAt (f : FieldNo) (w : TableWork) (i : Slot) (h : HostFields) : Except FaultReason TableWork :=
  if (findTag w.slots h.tag).isSome then .error .tagInUse
  else if (slotAt w.slots i).isSome then .error .slotInUse
  else if (firstHit w.slots (fun _ => false) h).isSome then .error .overlap
  else .ok (w.write i (some (createPlate f h)) (createNotice f h))

/-- The choice of slot for a PLACE ANY that has passed its checks, and the eviction (01 R19, R20). -/
def placeAny (f : FieldNo) (w : TableWork) (h : HostFields) : TableWork :=
  match lowestFree w.slots w.pinned with
  | some i => w.write i (some (createPlate f h)) (createNotice f h)
  | none =>
    let old := ((slotAt w.slots w.rotation).map fun p => p.tag).getD 0
    { w.write w.rotation (some (createPlate f h)) (.eviction old h.tag :: createNotice f h) with
      rotation := rotationStep w.pinned w.rotation }

/-- PLACE ANY (01 R19). -/
def applyPlaceAny (f : FieldNo) (w : TableWork) (h : HostFields) : Except FaultReason TableWork :=
  if (findTag w.slots h.tag).isSome then .error .tagInUse
  else if 32 ≤ w.pinned then .error .tableFull
  else if (firstHit w.slots (fun _ => false) h).isSome then .error .overlap
  else .ok (placeAny f w h)

/-! ## Amendments by tag (02 R42 to R47) -/

/-- Run k on the live plate that carries the tag (NO SUCH TAG when there is none). -/
def onTag (w : TableWork) (tag : Byte) (k : Slot → Plate → Except FaultReason TableWork) : Except FaultReason TableWork :=
  match findTag w.slots tag with
  | none => .error .noSuchTag
  | some i =>
    match slotAt w.slots i with
    | none => .error .noSuchTag
    | some p => k i p

/-- The host fields with every selected field at its new value (02 R42). -/
def amendHost (sel : FieldSelect) (h : HostFields) : HostFields :=
  { h with
    group := sel.group.getD h.group
    layer := sel.layer.getD h.layer
    top := sel.top.getD h.top
    left := sel.left.getD h.left
    height := sel.height.getD h.height
    width := sel.width.getD h.width
    keyMode := sel.keyMode.getD h.keyMode
    transIndex := sel.transIndex.getD h.transIndex
    mixTarget := sel.mixTarget.getD h.mixTarget
    fadeStep := sel.fadeStep.getD h.fadeStep
    lifetime := sel.lifetime.getD h.lifetime
    rowRate := sel.rowRate.getD h.rowRate
    colRate := sel.colRate.getD h.colRate
    stopRow := sel.stopRow.getD h.stopRow
    stopCol := sel.stopCol.getD h.stopCol
    notify := sel.notify.getD h.notify
    holdInSlew := sel.holdInSlew.getD h.holdInSlew
    closeAtStop := sel.closeAtStop.getD h.closeAtStop }

/-- The plate after an AMEND: a selected fade step clears the fade phase (02 R43). -/
def amendPlate (sel : FieldSelect) (p : Plate) : Plate :=
  { p with
    toHostFields := amendHost sel p.toHostFields
    fadePhase := if sel.fadeStep.isSome then 0 else p.fadePhase }

/-- AMEND (02 R42). -/
def applyAmend (w : TableWork) (tag : Byte) (sel : FieldSelect) : Except FaultReason TableWork :=
  onTag w tag fun i p =>
    if p.state = .closing then .error .closing
    else if (firstHit w.slots (fun j => j == i) (amendHost sel p.toHostFields)).isSome then .error .overlap
    else .ok (w.write i (some (amendPlate sel p)) [])

/-- A plate that has just become SHOWN by SHOW (02 R44) or by its start step (02 R53). -/
def becomeShown (p : Plate) : Plate := { p with state := .shown, mix := shownMix p.toHostFields, fadePhase := 0 }

/-- SHOW (02 R44). -/
def applyShow (w : TableWork) (tag : Byte) : Except FaultReason TableWork :=
  onTag w tag fun i p =>
    if p.state = .armed then
      .ok (w.write i (some { becomeShown p with new := true }) (shownNotice p.toHostFields))
    else .error .notArmed

/-- The effect of a CLOSE on the plate in slot i (02 R45). -/
def closeSlot (w : TableWork) (i : Slot) (p : Plate) : TableWork :=
  match p.state with
  | .armed => w.closeFree i p
  | .shown =>
    if p.fadeStep = 0 then w.closeFree i p
    else w.write i (some { p with state := .closing, fadePhase := 0, new := true }) []
  | .closing => w

/-- CLOSE (02 R45). -/
def applyClose (w : TableWork) (tag : Byte) : Except FaultReason TableWork := onTag w tag fun i p => .ok (closeSlot w i p)

/-- DROP (02 R46). -/
def applyDrop (w : TableWork) (tag : Byte) : Except FaultReason TableWork := onTag w tag fun i p => .ok (w.closeFree i p)

/-- MIX (02 R47). -/
def applyMix (w : TableWork) (tag : Byte) (level : Nat) : Except FaultReason TableWork :=
  onTag w tag fun i p =>
    if p.state = .closing then .error .closing else .ok (w.write i (some { p with mixTarget := level }) [])

/-! ## Group amendments (02 R48, R49) -/

/-- Slot i holds a member of the group: a live plate of the group in an unpinned slot (01 R11, 02 R49). -/
def isMember (ts : Slots) (pinned group : Nat) (i : Slot) : Bool :=
  decide (pinned ≤ i.val) && (slotAt ts i).any fun p => p.group == group

/-- The effect of a GROUP CLOSE on slot i (02 R48). -/
def groupCloseSlot (group : Nat) (w : TableWork) (i : Slot) : TableWork :=
  match slotAt w.slots i with
  | none => w
  | some p => if decide (w.pinned ≤ i.val) && p.group == group then closeSlot w i p else w

/-- GROUP CLOSE (02 R48). -/
def applyGroupClose (w : TableWork) (group : Nat) : TableWork := allSlots.foldl (groupCloseSlot group) w

/-- A record displaced by rows and columns. -/
def displace (rows cols : Int) (h : HostFields) : HostFields := { h with top := h.top + rows, left := h.left + cols }

/-- Check 1 of 02 R49 fails at slot i: the displaced member leaves the coordinate range. -/
def moveOutOfRange (ts : Slots) (pinned group : Nat) (rows cols : Int) (i : Slot) : Bool :=
  isMember ts pinned group i && (slotAt ts i).any fun p => !(coordOk (p.top + rows) && coordOk (p.left + cols))

/-- Check 2 of 02 R49 fails at slot i: the displaced member meets a live plate that is no member. -/
def moveOverlaps (ts : Slots) (pinned group : Nat) (rows cols : Int) (i : Slot) : Bool :=
  isMember ts pinned group i && (slotAt ts i).any fun p =>
    (firstHit ts (isMember ts pinned group) (displace rows cols p.toHostFields)).isSome

/-- The table with every member displaced. -/
def moveMembers (ts : Slots) (pinned group : Nat) (rows cols : Int) : Slots :=
  mapSlots (fun i v =>
    if isMember ts pinned group i then v.map fun p => { p with toHostFields := displace rows cols p.toHostFields } else v) ts

/-- GROUP MOVE (02 R49). -/
def applyGroupMove (w : TableWork) (group : Nat) (rows cols : Int) : Except FaultReason TableWork :=
  if allSlots.any (moveOutOfRange w.slots w.pinned group rows cols) then .error .range
  else if allSlots.any (moveOverlaps w.slots w.pinned group rows cols) then .error .overlap
  else .ok { w with slots := moveMembers w.slots w.pinned group rows cols }

/-! ## SET PINNED (01 R16) and RECALL (05 R112 to R116) -/

/-- SET PINNED (01 R16). -/
def applySetPinned (w : TableWork) (p : Nat) : TableWork := { w with pinned := p, rotation := 31, pinnedSet := true }

/-- The image conflicts with a pinned live plate (05 R113). -/
def imageConflicts (ts : Slots) (pinned : Nat) (m : Image) : Bool :=
  allSlots.any fun i => decide (i.val < pinned) && (slotAt ts i).any fun p =>
    p.tag == m.tag || p.toHostFields.meets m.toHostFields

/-- The plate installed from an image (05 R115). -/
def installImage (m : Image) : Plate :=
  if m.shown then
    { toHostFields := m.toHostFields, state := .shown, mix := m.mixTarget, fadePhase := 0, held := false, new := true }
  else
    { toHostFields := m.toHostFields, state := .armed, mix := 0, fadePhase := 0, held := false, new := true }

/-- The table after a recall: pinned slots as they were, image k in slot P + k, every other unpinned slot FREE
(05 R114, R115). -/
def installScene (ts : Slots) (pinned : Nat) (images : List Image) : Slots :=
  mapSlots (fun i v => if i.val < pinned then v else (images[i.val - pinned]?).map installImage) ts

/-- The occurrences of an installation (05 R116). -/
def installNotices (images : List Image) : List Detail :=
  images.flatMap fun m => if m.shown then shownNotice m.toHostFields else []

/-- RECALL (05 R112). -/
def applyRecall (scenes : Scenes) (w : TableWork) (n : SceneNo) : Except FaultReason TableWork :=
  let sc := scenes.get n
  if !sc.valid then .error .sceneEmpty
  else if 32 - w.pinned < sc.images.length then .error .sceneTooLarge
  else if sc.images.any (imageConflicts w.slots w.pinned) then .error .sceneConflict
  else .ok { w with slots := installScene w.slots w.pinned sc.images, notices := w.notices ++ installNotices sc.images }

/-! ## Applying the queue (02 R39) -/

/-- The kind's checks and effect. -/
def applyOp (f : FieldNo) (scenes : Scenes) (w : TableWork) : AmendOp → Except FaultReason TableWork
  | .place (some i) h => applyPlaceAt f w i h
  | .place none h => applyPlaceAny f w h
  | .amend tag sel => applyAmend w tag sel
  | .showPlate tag => applyShow w tag
  | .close tag => applyClose w tag
  | .drop tag => applyDrop w tag
  | .mix tag level => applyMix w tag level
  | .groupClose g => .ok (applyGroupClose w g)
  | .groupMove g r c => applyGroupMove w g r c
  | .setPinned p => .ok (applySetPinned w p)
  | .recall n => applyRecall scenes w n

/-- One entry of the queue: carried out whole, or faulted with APPLY FAULT and no other effect (02 R39). -/
def applyAmendment (f : FieldNo) (scenes : Scenes) (w : TableWork) (a : Amendment) : TableWork :=
  match applyOp f scenes w a.op with
  | .ok w' => { w' with applied := w'.applied + 1 }
  | .error r => { w with notices := w.notices ++ [.applyFault a.op.kind a.op.operand r a.origin], faulted := w.faulted + 1 }

/-- The whole queue, oldest first (02 R38 part 1). -/
def applyQueue (f : FieldNo) (scenes : Scenes) (q : List Amendment) (w : TableWork) : TableWork :=
  q.foldl (applyAmendment f scenes) w

/-! ## The advance (02 R52 to R59) -/

/-- The lifetime step of a SHOWN plate; none: the plate becomes FREE as a closing (02 R54). -/
def lifetimeStep (p : Plate) : Option Plate :=
  if p.lifetime = 0 then some p
  else if p.lifetime ≠ 1 then some { p with lifetime := p.lifetime - 1 }
  else if p.fadeStep = 0 then none
  else some { p with lifetime := 0, state := .closing, fadePhase := 0 }

/-- One level from m toward t. -/
def towardLevel (m t : Nat) : Nat := if m < t then m + 1 else m - 1

/-- The fade step of a SHOWN plate (02 R55). -/
def shownFade (p : Plate) : Plate :=
  if p.mix = p.mixTarget then { p with fadePhase := 0 }
  else if p.fadeStep = 0 then { p with mix := p.mixTarget }
  else if p.fadePhase + 1 < p.fadeStep then { p with fadePhase := p.fadePhase + 1 }
  else { p with mix := towardLevel p.mix p.mixTarget, fadePhase := 0 }

/-- The fade step of a CLOSING plate; none: the plate becomes FREE as a closing (02 R56). -/
def closingFade (p : Plate) : Option Plate :=
  if p.mix = 0 then none
  else if p.fadePhase + 1 < p.fadeStep then some { p with fadePhase := p.fadePhase + 1 }
  else if p.mix = 1 then none
  else some { p with mix := p.mix - 1, fadePhase := 0 }

/-- The candidate of one axis (02 R57): the coordinate, whether the axis reaches its stop, and the new rate. -/
structure Candidate where
  coord : Int
  stopped : Bool
  rate : Int
  deriving DecidableEq, Repr

/-- The stop lies strictly beyond the coordinate in the direction of the rate and no farther than the candidate. -/
def reachesStop (x rate s : Int) : Bool :=
  if 0 < rate then decide (x < s) && decide (s ≤ x + rate) else decide (s < x) && decide (x + rate ≤ s)

/-- Items 1 to 3 of 02 R57 for one axis. -/
def axisCandidate (x rate : Int) (stop : Option Int) : Candidate :=
  if rate = 0 then { coord := x, stopped := false, rate := 0 }
  else
    match stop.filter (reachesStop x rate) with
    | some s => { coord := s, stopped := true, rate := 0 }
    | none =>
      if x + rate < Config.coordMin then { coord := Config.coordMin, stopped := false, rate := 0 }
      else if Config.coordMax < x + rate then { coord := Config.coordMax, stopped := false, rate := 0 }
      else { coord := x + rate, stopped := false, rate := rate }

/-- The plate moved to its candidates (02 R59). -/
def movedPlate (p : Plate) (row col : Candidate) : Plate :=
  { p with top := row.coord, left := col.coord, rowRate := row.rate, colRate := col.rate, held := false }

/-- Close-at-stop after a move (02 R59); none: the plate becomes FREE as a closing. -/
def closeAtStopStep (p : Plate) : Option Plate :=
  if p.closeAtStop && decide (p.state = .shown) && decide (p.rowRate = 0) && decide (p.colRate = 0) then
    if p.fadeStep = 0 then none else some { p with state := .closing, fadePhase := 0 }
  else some p

/-- What a step leaves of a plate (none: FREE as a closing), and its occurrences in order. -/
structure AdvanceResult where
  plate : Option Plate
  notices : List Detail
  deriving DecidableEq, Repr

/-- A plate freed as a closing after the occurrences ds. -/
def freedAfter (p : Plate) (ds : List Detail) : AdvanceResult := { plate := none, notices := ds ++ closedNotice p.toHostFields }

/-- The move of a plate whose candidate is clear (02 R59). -/
def moveStep (p : Plate) (row col : Candidate) : AdvanceResult :=
  let m := movedPlate p row col
  let ds := if row.stopped || col.stopped then stoppedNotice p.toHostFields else []
  match closeAtStopStep m with
  | some m' => { plate := some m', notices := ds }
  | none => freedAfter m ds

/-- A plate held by the plate in slot j (02 R58). -/
def heldStep (ts : Slots) (p : Plate) (j : Slot) : AdvanceResult :=
  { plate := some { p with held := true }
    notices := if p.held then [] else [.motionHeld p.tag (((slotAt ts j).map fun q => q.tag).getD 0)] }

/-- The motion step of a SHOWN or CLOSING plate in slot i (02 R57 to R59). -/
def motionStep (ts : Slots) (i : Slot) (p : Plate) : AdvanceResult :=
  if p.rowRate = 0 ∧ p.colRate = 0 then { plate := some { p with held := false }, notices := [] }
  else
    let row := axisCandidate p.top p.rowRate p.stopRow
    let col := axisCandidate p.left p.colRate p.stopCol
    match firstHit ts (fun j => j == i) { p.toHostFields with top := row.coord, left := col.coord } with
    | some j => heldStep ts p j
    | none => moveStep p row col

/-- The fade and motion steps of a CLOSING plate (02 R56, R57). -/
def advanceClosing (ts : Slots) (i : Slot) (p : Plate) : AdvanceResult :=
  match closingFade p with
  | none => freedAfter p []
  | some p' => motionStep ts i p'

/-- The lifetime, fade and motion steps of a SHOWN plate (02 R52, R54, R55). -/
def advanceShown (ts : Slots) (i : Slot) (p : Plate) : AdvanceResult :=
  match lifetimeStep p with
  | none => freedAfter p []
  | some p' => if p'.state = .closing then advanceClosing ts i p' else motionStep ts i (shownFade p')

/-- The start step of an ARMED plate at the boundary carrying f (02 R53). -/
def advanceArmed (f : FieldNo) (p : Plate) : AdvanceResult :=
  match p.start with
  | .atField g =>
    if atOrBefore g f then { plate := some (becomeShown p), notices := shownNotice p.toHostFields }
    else { plate := some p, notices := [] }
  | .now => { plate := some p, notices := [] }
  | .onCue => { plate := some p, notices := [] }

/-- The steps of one plate by its state (02 R52). -/
def advancePlate (f : FieldNo) (ts : Slots) (i : Slot) (p : Plate) : AdvanceResult :=
  match p.state with
  | .armed => advanceArmed f p
  | .shown => advanceShown ts i p
  | .closing => advanceClosing ts i p

/-- The result of one plate's steps placed in the table. -/
def TableWork.take (w : TableWork) (i : Slot) (r : AdvanceResult) : TableWork :=
  { w with
    slots := putSlot w.slots i r.plate
    notices := w.notices ++ r.notices
    closings := w.closings + (if r.plate.isNone then 1 else 0) }

/-- The advance of slot i: a live plate whose new flag is clear (02 R52). -/
def advanceSlot (f : FieldNo) (w : TableWork) (i : Slot) : TableWork :=
  match slotAt w.slots i with
  | none => w
  | some p => if p.new then w else w.take i (advancePlate f w.slots i p)

/-- The advance of every slot, ascending (02 R38 part 2). -/
def advanceAll (f : FieldNo) (w : TableWork) : TableWork := allSlots.foldl (advanceSlot f) w

/-- Clear every new flag (02 R38 part 3). -/
def clearNew (ts : Slots) : Slots := mapSlots (fun _ v => v.map fun p => { p with new := false }) ts

/-- The four parts of 02 R38 at the boundary carrying f. -/
def tableBoundary (f : FieldNo) (scenes : Scenes) (t : PlateTable) : TableWork :=
  let w := advanceAll f (applyQueue f scenes t.queue (startWork t))
  { w with
    slots := clearNew w.slots
    rotation := if w.pinnedSet then w.rotation else rotationStep w.pinned w.rotation }

/-- The table a boundary leaves: the queue is empty (02 R60). -/
def TableWork.table (w : TableWork) : PlateTable := { slots := w.slots, pinned := w.pinned, rotation := w.rotation, queue := [] }

/-- The images a SAVE SCENE copies (05 R106, R107): unpinned ARMED and SHOWN plates in ascending slot order. -/
def savedImages (ts : Slots) (pinned : Nat) : List Image :=
  allSlots.filterMap fun i =>
    match slotAt ts i with
    | none => none
    | some p =>
      if i.val < pinned then none
      else
        match p.state with
        | .armed => some { toHostFields := p.toHostFields, shown := false }
        | .shown => some { toHostFields := p.toHostFields, shown := true }
        | .closing => none

end Sys2Proof.Machine
end

