-- ==== Sys2Proof/Machine/KeyerOps.lean ====
section
/-! DEFINITION. The Keyer (chapter 03): the visible set, span lists, KEY at a pixel, and the figures PROBE takes from the set. -/

namespace Sys2Proof.Machine

/-! ## The visible set (03 R61 to R63) -/

/-- The plate is hidden by hold-in-slew under the lock state and slew state of the latch (03 R62). -/
def hiddenInSlew (lock : LockState) (slew : Slew) (h : HostFields) : Bool :=
  h.holdInSlew &&
    (match slew with
      | .slew _ => true
      | .hold => decide (lock = .search) || decide (lock = .lineLock)
      | .track => decide (lock = .search) || decide (lock = .lineLock))

/-- The plate is visible at the latch (03 R61). -/
def isVisible (lock : LockState) (slew : Slew) (p : Plate) : Bool :=
  !decide (p.state = .armed) && decide (0 < p.mix) && !hiddenInSlew lock slew p.toHostFields

/-- The entry that the set keeps for a plate in slot i (03 R63). -/
def visEntry (i : Slot) (p : Plate) : VisPlate :=
  { slot := i, tag := p.tag, layer := p.layer, top := p.top, left := p.left, height := p.height, width := p.width,
    keyMode := p.keyMode, transIndex := p.transIndex, mix := p.mix }

/-- The visible set latched from the table, ascending by slot (03 R63). -/
def latchVisible (lock : LockState) (slew : Slew) (ts : Slots) : List VisPlate :=
  allSlots.filterMap fun i =>
    match slotAt ts i with
    | none => none
    | some p => if isVisible lock slew p then some (visEntry i p) else none

/-- The Keyer's part of a boundary that carries f: the visible set and the live level table (03 R63, R66). -/
def latchKeyer (k : Keyer) (lock : LockState) (slew : Slew) (ts : Slots) (f : FieldNo) : Keyer :=
  { k with visible := latchVisible lock slew ts, live := k.pendingLevels, fieldNumber := f }

/-! ## Span lists (03 R69 to R71) -/

/-- The span of a visible plate on row r, when it is a candidate for the row (03 R69). -/
def candidateSpan (width : Nat) (r : Nat) (v : VisPlate) : Option Span :=
  if v.top ≤ r ∧ (r : Int) ≤ v.top + v.height - 1 ∧ v.left ≤ (width : Int) - 1 ∧ 0 ≤ v.left + v.width - 1 then
    some { slot := v.slot, layer := v.layer, leftCol := max v.left 0,
           rightCol := min (v.left + v.width - 1) ((width : Int) - 1), keyMode := v.keyMode, transIndex := v.transIndex,
           mix := v.mix }
  else none

/-- The candidates of row r, in slot order (03 R69). -/
def rowCandidates (width : Nat) (r : Nat) (vs : List VisPlate) : List Span := vs.filterMap (candidateSpan width r)

/-- b is kept in preference to a: a higher layer, or the same layer and a lower slot (03 R71). -/
def keptBefore (a b : Span) : Bool := decide (a.layer < b.layer) || (a.layer == b.layer && decide (b.slot.val < a.slot.val))

/-- The candidates that are kept: those with fewer than 8 preferred to them (03 R71). -/
def keptSpans (cs : List Span) : List Span :=
  cs.filter fun a => decide ((cs.filter fun b => keptBefore a b).length < Config.spanLimit)

/-- a stands before b in a span list (03 R70). -/
def spanBefore (a b : Span) : Bool :=
  decide (a.leftCol < b.leftCol) || (decide (a.leftCol = b.leftCol) && decide (b.layer ≤ a.layer))

/-- Insert a span in the order of 03 R70. -/
def insertSpan (a : Span) : List Span → List Span
  | [] => [a]
  | b :: bs => if spanBefore a b then a :: b :: bs else b :: insertSpan a bs

/-- The spans in the order of 03 R70. -/
def sortSpans : List Span → List Span
  | [] => []
  | a :: as => insertSpan a (sortSpans as)

/-- The span list of row r (03 R69 to R71). -/
def spanList (width : Nat) (r : Nat) (vs : List VisPlate) : List Span := sortSpans (keptSpans (rowCandidates width r vs))

/-- The row has more than 8 candidates (03 R71). -/
def rowOverflows (width : Nat) (r : Nat) (vs : List VisPlate) : Bool :=
  decide (Config.spanLimit < (rowCandidates width r vs).length)

/-- The fallback decision of a line (03 R75). -/
def fallbackDecision (lock : LockState) (mode : Fallback) : LineDecision :=
  match lock with
  | .frameLock => .normal
  | .flywheel => .normal
  | .search => match mode with
    | .cut => .zero
    | .full => .full
    | .keep => .normal
  | .lineLock => match mode with
    | .cut => .zero
    | .full => .full
    | .keep => .normal

/-- The Keyer's part of a line start: row none is a blanking line (03 R68). -/
def keyLine (k : Keyer) (lock : LockState) (width : Nat) (row : Option Nat) : Keyer :=
  { k with
    row := row
    spans := match row with
      | none => []
      | some r => spanList width r k.visible
    decision := fallbackDecision lock k.fallback }

/-- The occurrence of SPAN OVERFLOW at a line start (03 R71). -/
def overflowNotice (k : Keyer) (width : Nat) (row : Option Nat) : List Detail :=
  match row with
  | none => []
  | some r => if rowOverflows width r k.visible then [.spanOverflow r k.fieldNumber] else []

/-! ## Pixels (03 R72 to R74) -/

/-- The span covers column c. -/
def Span.covers (sp : Span) (c : Int) : Bool := decide (sp.leftCol ≤ c) && decide (c ≤ sp.rightCol)

/-- The contribution of a span at colour index i (03 R72). -/
def contribution (live : Vector Nat 16) (i : Fin 16) (sp : Span) : Nat :=
  match sp.keyMode with
  | .box => sp.mix
  | .index => if sp.transIndex = some i.val then 0 else sp.mix * live.get i / 4

/-- The non-zero contribution of a covering span on layer l, if there is one. -/
def layerKey (live : Vector Nat 16) (spans : List Span) (c : Int) (i : Fin 16) (l : Nat) : Option Nat :=
  (spans.find? fun sp => sp.layer == l && sp.covers c && decide (0 < contribution live i sp)).map (contribution live i)

/-- KEY from the spans alone: the highest layer with a non-zero contribution, else 0 (03 R73). -/
def spanKey (live : Vector Nat 16) (spans : List Span) (c : Int) (i : Fin 16) : Nat :=
  ([3, 2, 1, 0].findSome? (layerKey live spans c i)).getD 0

/-- KEY at column c of the current line for colour index i (03 R72 to R75; log 28): 0 on a blanking line and outside the
picture columns. -/
def State.keyAt (s : State) (c : Int) (i : Fin 16) : Nat :=
  match s.keyer.row with
  | none => 0
  | some _ =>
    if 0 ≤ c ∧ c < s.raster.width then
      match s.keyer.decision with
      | .zero => 0
      | .full => 16
      | .normal => spanKey s.keyer.live s.keyer.spans c i
    else 0

/-! ## PROBE (01 R25) -/

/-- The entry covers the position. -/
def VisPlate.coversAt (v : VisPlate) (r c : Int) : Bool :=
  decide (v.top ≤ r) && decide (r ≤ v.top + v.height - 1) && decide (v.left ≤ c) && decide (c ≤ v.left + v.width - 1)

/-- The entries of the set that cover the position. -/
def coveringPlates (vs : List VisPlate) (r c : Int) : List VisPlate := vs.filter fun v => v.coversAt r c

/-- The entry of the highest layer. -/
def highestPlate : List VisPlate → Option VisPlate
  | [] => none
  | v :: vs =>
    match highestPlate vs with
    | none => some v
    | some w => if w.layer ≤ v.layer then some v else some w

end Sys2Proof.Machine
end

