-- ==== Sys2Proof/Machine/RasterOps.lean ====
section
/-! DEFINITION. The output raster and the synthesiser (chapter 08), over plain raster data: geometry, position and time, and the
offset rules of HOLD, TRACK and SLEW. -/

namespace Sys2Proof.Machine

/-! ## Geometry (07 R132, 08 R156, R157) -/

/-- Lines of a frame. -/
def frameLines : Standard → Nat
  | .s625 => 625
  | .s525 => 525

/-- The first frame line of a SECOND field. -/
def secondStart : Standard → Nat
  | .s625 => 313
  | .s525 => 263

/-- The expected length of a field (07 R141). -/
def expectedLines (std : Standard) : FieldId → Nat
  | .first => secondStart std
  | .second => frameLines std - secondStart std

def FieldId.other : FieldId → FieldId
  | .first => .second
  | .second => .first

/-- The first frame line of a field. -/
def fieldStart (std : Standard) : FieldId → Nat
  | .first => 0
  | .second => secondStart std

/-- The identity of the field that a frame line lies in (08 R166 item 6). -/
def lineIdentity (std : Standard) (line : Nat) : FieldId := if line < secondStart std then .first else .second

/-- The field line of a frame line (08 R156). -/
def fieldLine (std : Standard) (line : Nat) : Nat := line - fieldStart std (lineIdentity std line)

/-- The first field line of the picture band, and the number of picture lines of a field (08 R157). -/
def pictureTop : Standard → Nat
  | .s625 => 23
  | .s525 => 20

def pictureLines : Standard → Nat
  | .s625 => 288
  | .s525 => 240

/-- The picture row that a frame line carries, none on a blanking line (08 R157). -/
def rowOfLine (std : Standard) (line : Nat) : Option Nat :=
  let f := fieldLine std line
  if pictureTop std ≤ f ∧ f < pictureTop std + pictureLines std then
    match lineIdentity std line with
    | .first => some (2 * (f - pictureTop std))
    | .second => some (2 * (f - pictureTop std) + 1)
  else none

/-- The number of picture rows (01 R13). -/
def pictureRows (std : Standard) : Nat := 2 * pictureLines std

/-- The line length of a standard, in pixel clocks (08 R156). -/
def RasterParams.lineLength (q : RasterParams) : Standard → Nat
  | .s625 => q.length625
  | .s525 => q.length525

/-- Sixteenths of a pixel clock in a line of the output standard (08 R158). -/
def Raster.line16 (r : Raster) : Int := (r.params.lineLength r.std : Int) * 16

/-- Sixteenths in a frame of the output standard (07 R148). -/
def Raster.frame16 (r : Raster) : Int := (frameLines r.std : Int) * r.line16

/-- The line in progress is the last of its field. -/
def Raster.atFieldEnd (r : Raster) : Bool := r.line + 1 == secondStart r.std || r.line + 1 == frameLines r.std

/-- The first line of the next field. -/
def Raster.nextFieldLine (r : Raster) : Nat := fieldStart r.std (lineIdentity r.std r.line).other

/-! ## Position and time (08 R158, R159; log 5, log 6) -/

/-- Units of position gained per sixteenth of a nominal clock: 2^20 and the offset. -/
def Raster.rate (r : Raster) : Int := Config.fine + r.offset

/-- The position within the line in progress at the moment t, in units of 2^-20 sixteenth. -/
def Raster.posAt (r : Raster) (t : Time) : Int := r.pos + (t - r.posTime) * r.rate

/-- The raster with its position stated at the moment t. -/
def Raster.anchor (r : Raster) (t : Time) : Raster := { r with pos := r.posAt t, posTime := t }

/-- The quotient rounded up, for a positive divisor. -/
def ceilDiv (a b : Int) : Int := -(-a / b)

/-- The moment at which the line in progress ends (log 5). -/
def Raster.lineEnd (r : Raster) : Time := r.posTime + ceilDiv (r.line16 * Config.fine - r.pos) r.rate

/-- The frame position, in whole sixteenths within the frame, at the moment t. -/
def Raster.framePos (r : Raster) (t : Time) : Int :=
  (((r.line : Int) * (r.line16 * Config.fine) + r.posAt t) / Config.fine) % r.frame16

/-- The output's position at the moment t (08 R158). -/
def Raster.outAt (r : Raster) (t : Time) : OutPos :=
  { line := r.framePos t / r.line16, p := r.framePos t % r.line16 }

/-- The raster at the start of the line that follows the line in progress, whatever its number; its line start is not taken. -/
def Raster.toLine (r : Raster) (line : Nat) : Raster :=
  if r.startDue then { r with line := line }
  else { r with line := line, pos := r.posAt r.lineEnd - r.line16 * Config.fine, posTime := r.lineEnd, startDue := true }

/-- The raster placed at frame line n and rem sixteenths into it at the moment t (08 R166 item 6; log 27). -/
def Raster.place (r : Raster) (n rem : Int) (t : Time) : Raster :=
  let q := (n * r.line16 + rem) % r.frame16
  { r with line := (q / r.line16).toNat, pos := (q % r.line16) * Config.fine, posTime := t,
           startDue := decide (q % r.line16 = 0) }

/-! ## The offset (08 R159) -/

/-- The offset bounded by the pull limit. -/
def clampOffset (limit : Nat) (x : Int) : Int := max (-(limit : Int)) (min x limit)

/-- One step toward 0 (08 R160, R163). -/
def stepToZero (step : Nat) (o : Int) : Int :=
  if o.natAbs ≤ step then 0 else if 0 < o then o - step else o + step

/-- One step toward an aim, stopping at the aim (08 R163). -/
def stepToward (step : Nat) (aim o : Int) : Int := if o ≤ aim then min (o + step) aim else max (o - step) aim

/-- The raster with slew state w and the segment count, segment end, timer and timeout cleared (08 R160, R161, R164, R165). -/
def Raster.enterSlewState (r : Raster) (w : Slew) : Raster :=
  { r with slew := w, segLines := 0, segDue := false, timer := 0, timeoutDue := false }

/-- RASTER RESET driven Low (08 R166 item 4, R171). -/
def Raster.lowerReset (r : Raster) : Raster := { r with resetLow := true }

/-- RASTER RESET released High (08 R166 item 4, R171). -/
def Raster.releaseReset (r : Raster) : Raster := { r with resetLow := false, pulses := r.pulses + 1 }

/-- A ramp started with a phase error e (08 R163; log 24). -/
def startRamp (e : Int) : Ramp := { stage := .up, gain := decide (0 < e), err := e }

/-- The error lies within the capture window (08 R161, R162, R164). -/
def Raster.captures (r : Raster) (e : Int) : Bool := decide (e.natAbs ≤ 16 * r.params.captureWindow)

/-- The offset that TRACK's correction gives for error e and gain g (08 R162). -/
def trackOffset (limit : Nat) (o e : Int) (g : Nat) : Int := clampOffset limit (o + (e * g).tdiv 64)

/-- The Raster Generator takes a phase error measured at the moment t (08 R162, R164); gain is the track gain in force. -/
def Raster.takePhase (r : Raster) (gain : Nat) (e : Int) (t : Time) : Raster :=
  match r.slew with
  | .hold => r
  | .track =>
    if r.captures e then { r.anchor t with offset := trackOffset r.params.pullLimit r.offset e gain }
    else r.enterSlewState (.slew (startRamp e))
  | .slew w => if r.captures e then r.enterSlewState .track else { r with slew := .slew { w with err := e } }

/-! ## Segments (08 R160, R163, R164) -/

/-- The sum of the terms |o| - step, |o| - 2 step, ... that are above 0 (08 R164). -/
def rampDownSum (o : Int) (step : Nat) : Nat :=
  let n := (o.natAbs - 1) / step
  n * o.natAbs - step * (n * (n + 1) / 2)

/-- |e| is no more than the ramp-down distance of o (08 R164), compared exactly (log 25). -/
def withinRampDown (q : RasterParams) (std : Standard) (o e : Int) : Bool :=
  decide (e.natAbs * 65536 ≤ rampDownSum o q.rampStep * q.segmentLength * q.lineLength std)

/-- d times the pull limit. -/
def rampAim (limit : Nat) (gain : Bool) : Int := if gain then limit else -(limit : Int)

/-- The offset is above 0 in the direction of the ramp. -/
def onSide (gain : Bool) (o : Int) : Bool := if gain then decide (0 < o) else decide (o < 0)

/-- The error is not 0 and its sign is opposite to the direction (08 R163 order 1). -/
def opposes (gain : Bool) (e : Int) : Bool := if gain then decide (e < 0) else decide (0 < e)

/-- The ramp and the offset after a segment end. -/
structure SegmentOutcome where
  ramp : Ramp
  offset : Int
  deriving DecidableEq, Repr

/-- The ramp restarts in RAMP UP with the sign of its error (08 R163 orders 1 and 2). -/
def restartRamp (q : RasterParams) (w : Ramp) (o : Int) : SegmentOutcome :=
  { ramp := { stage := .up, gain := decide (0 < w.err), err := w.err }
    offset := stepToward q.rampStep (rampAim q.pullLimit (decide (0 < w.err))) o }

/-- One step in RAMP UP (08 R163 order 5). -/
def rampUpStep (q : RasterParams) (w : Ramp) (o : Int) : SegmentOutcome :=
  let o' := stepToward q.rampStep (rampAim q.pullLimit w.gain) o
  { ramp := if o' = rampAim q.pullLimit w.gain then { w with stage := .cruise } else w, offset := o' }

/-- The table of 08 R163 at a segment end. -/
def segmentOutcome (q : RasterParams) (std : Standard) (w : Ramp) (o : Int) : SegmentOutcome :=
  if opposes w.gain w.err then restartRamp q w o
  else if w.stage = .down ∧ o = 0 then restartRamp q w o
  else if w.stage = .down then { ramp := w, offset := stepToZero q.rampStep o }
  else if onSide w.gain o ∧ withinRampDown q std o w.err then
    { ramp := { w with stage := .down }, offset := stepToZero q.rampStep o }
  else if w.stage = .up then rampUpStep q w o
  else { ramp := w, offset := o }

/-- The lock state is one in which HOLD decays the offset (08 R160). -/
def LockState.decays : LockState → Bool
  | .search => true
  | .lineLock => true
  | .frameLock => false
  | .flywheel => false

/-- The segment line count counts at a line start (08 R160, R163). -/
def Raster.countsSegments (r : Raster) (lock : LockState) : Bool :=
  match r.slew with
  | .slew _ => true
  | .hold => lock.decays
  | .track => false

/-- One line start counted (08 R157, R160, R163). -/
def Raster.countSegment (r : Raster) (lock : LockState) : Raster :=
  if r.countsSegments lock then
    if r.params.segmentLength ≤ r.segLines + 1 then { r with segLines := 0, segDue := true }
    else { r with segLines := r.segLines + 1 }
  else r

/-- The segment end of a ramp (08 R163). -/
def Raster.rampSegment (r : Raster) : Raster :=
  match r.slew with
  | .slew w =>
    let z := segmentOutcome r.params r.std w r.offset
    { r with slew := .slew z.ramp, offset := z.offset, segDue := false }
  | .hold => r
  | .track => r

/-- A decay segment in HOLD (08 R160). -/
def Raster.decaySegment (r : Raster) (lock : LockState) : Raster :=
  match r.slew with
  | .hold => if lock.decays then { r with offset := stepToZero r.params.rampStep r.offset, segDue := false } else r
  | .track => r
  | .slew _ => r

/-- A segment end that is due, taken (log 12). -/
def Raster.settleSegment (r : Raster) (lock : LockState) : Raster :=
  if r.segDue then { (r.rampSegment.decaySegment lock) with segDue := false } else r

/-- The slew timer at a field boundary (08 R165; log 13). -/
def Raster.countTimer (r : Raster) : Raster :=
  match r.slew with
  | .slew _ =>
    let n := min (r.timer + 1) 65535
    { r with timer := n, timeoutDue := decide (r.params.slewTimeout ≠ 0) && decide (r.params.slewTimeout ≤ n) }
  | .hold => r
  | .track => r

/-- The timeout align is to be made at the next line start: the raster has taken the start of field line 0 (08 R165). -/
def Raster.timeoutNow (r : Raster) : Bool :=
  r.timeoutDue && !r.startDue && decide (fieldLine r.std r.line = 0) &&
    (match r.slew with
      | .slew _ => true
      | .hold => false
      | .track => false)

/-- The name of a slew state (07 R153). -/
def Slew.name : Slew → SlewName
  | .hold => .hold
  | .track => .track
  | .slew _ => .slew

/-- The raster after new parameters at the moment t (08 R170), but for the align of a changed line length. -/
def Raster.setParams (r : Raster) (q : RasterParams) (t : Time) : Raster :=
  { r.anchor t with
    params := q
    offset := clampOffset q.pullLimit r.offset
    slew := match r.slew with
      | .hold => .hold
      | .track => .track
      | .slew w =>
        if r.params.pullLimit < q.pullLimit ∧ w.stage = .cruise then .slew { w with stage := .up } else .slew w }

end Sys2Proof.Machine
end

