-- ==== Sys2Proof/Machine/Ops.lean ====
section
/-! DEFINITION. The named operations over the state that the meanings share: replacing one block, raising attention, the request and
reply FIFOs, posting, the event counter, the Cue Sequencer. -/

namespace Sys2Proof.Machine

/-! ## Replacing one block -/

def State.withPort (s : State) (v : Port) : State := { s with port := v }
def State.withTable (s : State) (v : PlateTable) : State := { s with table := v }
def State.withKeyer (s : State) (v : Keyer) : State := { s with keyer := v }
def State.withSeq (s : State) (v : Sequencer) : State := { s with seq := v }
def State.withScenes (s : State) (v : Scenes) : State := { s with scenes := v }
def State.withClock (s : State) (v : FieldClock) : State := { s with clock := v }
def State.withRlc (s : State) (v : RefLock) : State := { s with rlc := v }
def State.withRaster (s : State) (v : Raster) : State := { s with raster := v }
def State.withAtt (s : State) (v : Attention) : State := { s with att := v }
def State.withPending (s : State) (v : List Instr) : State := { s with pending := v }

/-! ## Attention (10 R188, R189) -/

/-- One occurrence. -/
def raise (s : State) (d : Detail) : State := s.withAtt (s.att.occur d)

/-- Occurrences in order. -/
def raiseAll (s : State) (ds : List Detail) : State := s.withAtt (s.att.occurAll ds)

/-! ## Replies (09 R179) -/

/-- A reply written whole: code, length, body. -/
def reply (s : State) (code : Byte) (body : List Byte) : State :=
  s.withPort { s.port with replies := s.port.replies ++ (code :: byteOf body.length :: body) }

/-- The reply OK. -/
def replyOkTo (s : State) : State := reply s replyOk []

/-! ## Requests (09 R174, R177, R178) -/

/-- The complete request at the head of the bytes: code and operands (09 R174). -/
def framed : List Byte → Option (Byte × List Byte)
  | c :: n :: rest =>
    if n.toNat ≤ Config.maxOperands ∧ n.toNat ≤ rest.length then some (c, rest.take n.toNat) else none
  | _ => none

/-- Remove n bytes from the head of the request FIFO. -/
def consume (s : State) (n : Nat) : State := s.withPort { s.port with requests := s.port.requests.drop n }

/-- The port may begin an execution whose largest reply is `largest` (09 R177). -/
def Port.ready (p : Port) (largest : Nat) : Bool := !p.job.busy && decide (largest ≤ p.room)

/-- Execute the request at the head of the FIFO when it is a request of row r that may begin: its bytes leave the FIFO, its
length is checked, and k takes its operands. Otherwise nothing happens (09 R177, R178; log 2, log 4). -/
def withRequest (r : ReqInfo) (k : List Byte → State → State) (s : State) : State :=
  match framed s.port.requests with
  | none => s
  | some (c, ops) =>
    if c = r.code ∧ s.port.ready r.largest = true then
      if ops.length ∈ r.lengths then k ops (consume s (ops.length + 2))
      else reply (consume s (ops.length + 2)) replyBadLength []
    else s

/-- Check 3 of 09 R178: BAD OPERAND unless ok. -/
def withOperands (ok : Bool) (k : State → State) (s : State) : State := if ok then k s else reply s replyBadOperand []

/-! ## The amendment queue (02 R32, R33) -/

/-- The queue holds fewer than 16 entries. -/
def PlateTable.hasRoom (t : PlateTable) : Bool := decide (t.queue.length < Config.queueDepth)

/-- Add one amendment at the end of the queue. -/
def post (s : State) (o : Origin) (op : AmendOp) : State :=
  s.withTable { s.table with queue := s.table.queue ++ [{ origin := o, op := op }] }

/-- Order 3 of 02 R33 and the post of origin REQUEST: QUEUED with the depth, or QUEUE FULL. -/
def postRequest (op : AmendOp) (s : State) : State :=
  if s.table.hasRoom then reply (post s .request op) replyQueued [byteOf (s.table.queue.length + 1)]
  else reply s replyQueueFull []

/-! ## The event counter (06 R124 to R126; log 10) -/

/-- The event-select set holds the event. -/
def EventSelect.has (e : EventSelect) : CountEvent → Bool
  | .trigger => e.trigger
  | .endPass => e.endPass
  | .cueIn => e.cueIn
  | .closing => e.closing

/-- Count the events in order, up to the one that would take the counter to 0; that one and those behind it wait. The result is
the counter and the events that wait. -/
def countEvents (sel : EventSelect) (preset : Nat) : Nat → List CountEvent → Nat × List CountEvent
  | n, [] => (n, [])
  | n, e :: es =>
    if sel.has e = true ∧ preset ≠ 0 then
      if n ≤ 1 then (n, e :: es) else countEvents sel preset (n - 1) es
    else countEvents sel preset n es

/-- The clock with the events that wait counted as far as they can be. -/
def FieldClock.drain (c : FieldClock) : FieldClock :=
  let z := countEvents c.select c.preset c.count c.handed
  { c with count := z.1, handed := z.2 }

/-- Events handed to the event counter. -/
def FieldClock.hand (c : FieldClock) (es : List CountEvent) : FieldClock := { c with handed := c.handed ++ es }.drain

/-- Hand events to the Field Clock. -/
def hand (s : State) (es : List CountEvent) : State := s.withClock (s.clock.hand es)

/-- The event counter has reached 0: COUNT DONE is raised, the counter is loaded again, and a halt is given when halt-on-count is
set (06 R125; log 9). -/
def counterDone (s : State) : State :=
  raise
    ((s.withSeq { s.seq with haltsDue := s.seq.haltsDue + (if s.clock.haltOnCount then 1 else 0) }).withClock
      { s.clock with count := s.clock.preset }.drain)
    .countDone

/-- The FIELD event of a boundary, counted in the Field Clock's own share (06 R124, R129). -/
def countField (s : State) : State :=
  if s.clock.select.field = true ∧ s.clock.preset ≠ 0 then
    if s.clock.count ≤ 1 then counterDone s
    else s.withClock { s.clock with count := s.clock.count - 1 }
  else s

/-- An event waits that takes the counter to 0. -/
def FieldClock.doneDue (c : FieldClock) : Bool :=
  match c.handed with
  | [] => false
  | e :: _ => c.select.has e && decide (c.preset ≠ 0) && decide (c.count ≤ 1)

/-! ## The Cue Sequencer (chapter 04) -/

/-- The sequencer halted: the run count and the delay counter are 0 (04 R85, R87). -/
def Sequencer.halted (q : Sequencer) : Sequencer :=
  { q with state := .halted, runCount := 0, delay := 0, expiryDue := false, resumeDue := false }

/-- A run starts at the pointer (04 R92). -/
def Sequencer.running (q : Sequencer) : Sequencer := { q with state := .running, runCount := 0, delay := 0, expiryDue := false }

/-- HALT, from the port or from the counter (04 R87). -/
def haltSequencer (s : State) : State := s.withSeq s.seq.halted

/-- A missed trigger (04 R89). -/
def missTrigger (s : State) : State := raise s (.sequencerFault .missedTrigger s.seq.pointer)

/-- One trigger, taken by the state it finds (04 R89). -/
def trigger (s : State) : State :=
  match s.seq.state with
  | .halted => s
  | .waiting => hand (s.withSeq s.seq.running) [.trigger]
  | .running => missTrigger s
  | .stalled => missTrigger s
  | .delaying => missTrigger s

/-- The entry at the pointer. -/
def Sequencer.entry (q : Sequencer) : CueEntry := q.cues.get q.pointer

/-- The entry makes an END pass when executed at index i (04 R94). -/
def endPassAt (e : CueEntry) (i : CueIndex) : Bool := e.flags.end_ || decide (i.val = 127)

/-- The pointer after the cue at index i (04 R94). -/
def nextPointer (e : CueEntry) (i loopStart : CueIndex) : CueIndex :=
  if endPassAt e i then loopStart else ⟨(i.val + 1) % 128, Nat.mod_lt _ (by omega)⟩

/-- How a run goes on after a cue (04 R95). -/
inductive Ending
  | halt | delay | wait | runaway | goOn
  deriving DecidableEq, Repr

/-- The ending decision; n is the run count after the cue (04 R95). -/
def endingDecision (e : CueEntry) (pass : Bool) (mode : SeqMode) (n : Nat) : Ending :=
  if e.flags.halt then .halt
  else if pass = true ∧ mode = .once then .halt
  else if e.action = .delay then .delay
  else if e.flags.wait then .wait
  else if Config.runLimit ≤ n then .runaway
  else .goOn

/-- The sequencer after the ending decision; n is the run count after the cue (04 R95, R96). -/
def Sequencer.ending (q : Sequencer) (e : CueEntry) (n : Nat) : Ending → Sequencer
  | .halt => q.halted
  | .runaway => q.halted
  | .delay => { q with state := .delaying, runCount := 0, delay := e.parameter.toNat, expiryDue := false }
  | .wait => { q with state := .waiting, runCount := 0, delay := 0 }
  | .goOn => { q with runCount := n }

/-- CUE NOTIFY for an entry whose flags hold NOTIFY (04 R103). -/
def notifyDetails (e : CueEntry) (index : Byte) : List Detail := if e.flags.notify then [.cueNotify index] else []

/-- The fault of the run limit (04 R96). -/
def runawayDetails (z : Ending) (i : CueIndex) : List Detail :=
  match z with
  | .runaway => [.sequencerFault .runaway i]
  | .halt => []
  | .delay => []
  | .wait => []
  | .goOn => []

/-- Items 4 to 6 of 04 R93 for the entry e at the pointer. -/
def finishCue (s : State) (e : CueEntry) : State :=
  let i := s.seq.pointer
  let pass := endPassAt e i
  let z := endingDecision e pass s.seq.mode (s.seq.runCount + 1)
  let q := { s.seq with pointer := nextPointer e i s.seq.loopStart }.ending e (s.seq.runCount + 1) z
  hand ((raiseAll s (notifyDetails e (byteOf i.val) ++ runawayDetails z i)).withSeq q) (if pass then [.endPass] else [])

/-- The run stalls at the cue at the pointer (04 R99). -/
def stallRun (s : State) : State :=
  raise (s.withSeq { s.seq with state := .stalled, resumeDue := false }) (.sequencerFault .stall s.seq.pointer)

/-- The cue at the pointer, executed whole (04 R93). -/
def executeCue (s : State) : State :=
  let e := s.seq.entry
  match e.amendment? with
  | none => finishCue s e
  | some op => if s.table.hasRoom then finishCue (post s (.cue s.seq.pointer) op) e else stallRun s

/-! ## Port control (09 R183 to R185) -/

/-- The port's effects of ABORT (09 R183). -/
def Port.aborted (p : Port) : Port := { p with requests := [], replies := [], rejecting := false, job := .idle }

/-- ABORT. -/
def abortPort (s : State) : State := s.withPort s.port.aborted

/-- The Keyer at a soft reset (03 R77). -/
def Keyer.softReset (k : Keyer) : Keyer := { k with visible := [], spans := [] }

/-- The Cue Sequencer at a soft reset: HALTED, pointer 0, events not yet taken discarded (04 R104; log 15). -/
def Sequencer.softReset (q : Sequencer) : Sequencer :=
  { q.halted with pointer := 0, intervalsDue := 0, marksDue := 0, haltsDue := 0 }

/-- The Field Clock at a soft reset: the event counter loaded from the preset, counts not yet taken discarded
(06 R130; log 15). -/
def FieldClock.softReset (c : FieldClock) : FieldClock := { c with count := c.preset, handed := [] }

/-- SOFT RESET in every block (09 R184; 01 R31, 03 R77, 04 R104, 06 R130, 10 R194). -/
def softResetAll (s : State) : State :=
  { s with
    port := s.port.aborted
    table := PlateTable.reset
    keyer := s.keyer.softReset
    seq := s.seq.softReset
    clock := s.clock.softReset
    att := Attention.reset }

/-- A write to location 1 (09 R183 to R185). -/
def portControl (ctl : Byte) (s : State) : State :=
  if ctl.getLsbD 1 then softResetAll s else if ctl.getLsbD 0 then abortPort s else s

end Sys2Proof.Machine
end

