-- ==== Sys2Proof/Machine/LockOps.lean ====
section
/-! DEFINITION. The Reference Lock Controller (chapter 07) over plain data: windows, spacing, the reference frame position, entries to
the lock states, the phase error, the timing image. -/

namespace Sys2Proof.Machine

/-! ## Profiles and standards (07 R132 to R136) -/

/-- The profile with a name. -/
def RefLock.profile (c : RefLock) : ProfileName → Profile
  | .broadcast => c.broadcast
  | .tape => c.tape

/-- The profile in force (07 R133). -/
def RefLock.inForce (c : RefLock) : Profile :=
  match c.source with
  | .a => c.profile c.assignA
  | .b => c.profile c.assignB

/-- The line window in sixteenths (07 R131, R133). -/
def RefLock.window16 (c : RefLock) : Int := (c.inForce.lineWindow : Int) * 16

/-- The setting allows the standard (07 R132). -/
def StandardSetting.allows : StandardSetting → Standard → Bool
  | .auto, _ => true
  | .only625, .s625 => true
  | .only625, .s525 => false
  | .only525, .s525 => true
  | .only525, .s625 => false

/-- The nominal line period in sixteenths (07 R131, R132). -/
def nominal16 (q : RasterParams) (std : Standard) : Int := (q.lineLength std : Int) * 16

/-- A spacing lies within the window of the nominal period (07 R137). -/
def nearPeriod (q : RasterParams) (w sp : Int) (std : Standard) : Bool := decide ((sp - nominal16 q std).natAbs ≤ w.toNat)

/-- A spacing is good in SEARCH (07 R137). -/
def RefLock.searchGood (c : RefLock) (q : RasterParams) (sp : Int) : Bool :=
  (c.setting.allows .s625 && nearPeriod q c.window16 sp .s625) || (c.setting.allows .s525 && nearPeriod q c.window16 sp .s525)

/-- A spacing is good in FLYWHEEL: near the period of the identified standard (07 R146). -/
def RefLock.flywheelGood (c : RefLock) (q : RasterParams) (sp : Int) : Bool :=
  match c.standard with
  | none => false
  | some std => nearPeriod q c.window16 sp std

/-! ## The current reference line (07 R138, R139) -/

/-- The time of the current line: its sync, its predicted time, or the last decided line's time. -/
def RefLock.currentTime (c : RefLock) : Time :=
  if c.entered then c.windowSync.getD (c.prediction.getD c.lineTime) else c.lineTime

/-- The reference field after one more line: at its expected length it ends by prediction (07 R141). -/
def RefField.nextLine (f : RefField) (std : Standard) : RefField :=
  if expectedLines std f.id ≤ f.count + 1 then { id := f.id.other, count := 0, predicted := true }
  else { f with count := f.count + 1 }

/-- The field length recorded when the next line ends the field by prediction in FRAME LOCK (07 R141; log 21). -/
def RefLock.lengthAfterLine (c : RefLock) : Nat :=
  match c.lock, c.standard, c.field with
  | .frameLock, some std, some f =>
    if expectedLines std f.id ≤ f.count + 1 then expectedLines std f.id else c.fieldLength
  | _, _, _ => c.fieldLength

/-- The reference field after one more line, where there is one. -/
def RefLock.fieldAfterLine (c : RefLock) : Option RefField :=
  match c.standard, c.field with
  | some std, some f => some (f.nextLine std)
  | _, f => f

/-- The controller enters the predicted line (07 R138, R139, R141). -/
def RefLock.enterLine (c : RefLock) : RefLock :=
  { c with entered := true, windowSync := none, lineOut := none, sinceGood := c.sinceGood + 1,
           fieldLength := c.lengthAfterLine, field := c.fieldAfterLine, pair := c.pair.map (· + 1) }

/-- The predicted line entered, if it has not been. -/
def RefLock.ensureEntered (c : RefLock) : RefLock := if c.entered then c else c.enterLine

/-- The moment t lies in the window about the prediction (07 R138). -/
def RefLock.inWindow (c : RefLock) (t : Time) : Bool :=
  match c.prediction with
  | none => false
  | some p => decide ((t - p).natAbs ≤ c.window16.toNat)

/-- The moment t is not before the opening of the predicted line's window. -/
def RefLock.windowOpened (c : RefLock) (t : Time) : Bool :=
  match c.prediction with
  | none => false
  | some p => decide (p - c.window16 ≤ t)

/-- The line to which an event at the moment t belongs is the current line of the result (07 R139). -/
def RefLock.lineOfEvent (c : RefLock) (t : Time) : RefLock := if c.windowOpened t then c.ensureEntered else c

/-- The current line lies in the head-switch zone of a FRAME LOCK field (07 R143). -/
def RefLock.inZone (c : RefLock) : Bool :=
  match c.lock, c.standard, c.field with
  | .frameLock, some std, some f => decide (expectedLines std f.id ≤ f.count + c.inForce.zone)
  | _, _, _ => false

/-- The frame line of the current line (07 R132, R140). -/
def refFrameLine (std : Standard) (f : RefField) : Int := ((fieldStart std f.id + f.count : Nat) : Int)

/-! ## Deciding a line (07 R138, R143) -/

/-- The entered line is decided at the close of its window and the next line is predicted: by the measured period, or once by a
nominal period that has changed (08 R170; log 37). -/
def RefLock.decideLine (c : RefLock) : RefLock :=
  match c.windowSync with
  | some t =>
    let per := if c.lineGood && !c.inZone then t - c.lineTime else c.period
    { c with lineTime := t, lineGood := true, period := per, missCount := 0, prediction := some (t + c.nominalNext.getD per),
             nominalNext := none, entered := false, windowSync := none }
  | none =>
    { c with lineTime := c.currentTime, lineGood := false,
             missCount := if c.inZone then c.missCount else c.missCount + 1,
             prediction := some (c.currentTime + c.nominalNext.getD c.period), nominalNext := none, entered := false }

/-- New raster parameters change the nominal period of the reference's standard in FRAME LOCK: the next line not yet entered is
predicted against the new one (08 R170; log 37). -/
def RefLock.repredict (c : RefLock) (q q' : RasterParams) : RefLock :=
  match c.lock, c.standard with
  | .frameLock, some std =>
    if q'.lineLength std = q.lineLength std then c
    else if c.entered then { c with nominalNext := some (nominal16 q' std) }
    else { c with prediction := some (c.lineTime + nominal16 q' std) }
  | _, _ => c

/-- The entered line, when it is missed, is a counted miss that reaches the miss limit (07 R138, R143). -/
def RefLock.missReachesLimit (c : RefLock) : Bool :=
  c.windowSync.isNone && !c.inZone && decide (c.inForce.missLimit ≤ c.missCount + 1)

/-! ## Entries to the lock states -/

/-- Entry to SEARCH (07 R147). -/
def RefLock.toSearch (c : RefLock) : RefLock :=
  { c with goodCount := 0, missCount := 0, parityCount := 0, holdover := 0, waiting := false, standard := none,
           prediction := none, nominalNext := none, entered := false, windowSync := none, field := none, pair := none,
           lastSync := none }

/-- The line in progress settled, so that no window is open. A line already entered gives its own time as the last line's time and
leaves the miss count and the measured period undecided: the spec is silent on it (07 R144; DESIGN CHOICE, log 38). -/
def RefLock.settleLine (c : RefLock) : RefLock :=
  if c.entered then
    { c with lineTime := c.currentTime, lineGood := c.windowSync.isSome, entered := false, windowSync := none }
  else c

/-- The holdover, the requalification and the wait for confirmation from their beginning: on entry to FLYWHEEL, and at a switch of
source there (07 R144, R149). -/
def RefLock.restartHoldover (c : RefLock) : RefLock := { c with holdover := 0, goodCount := 0, waiting := false }

/-- The line prediction runs on from the last line's time at the measured line period, whatever period the next line was predicted
by before (07 R144; 08 R170). -/
def RefLock.runOn (c : RefLock) : RefLock := { c with prediction := some (c.lineTime + c.period), nominalNext := none }

/-- Entry to FLYWHEEL (07 R144). -/
def RefLock.toFlywheel (c : RefLock) : RefLock := c.settleLine.runOn.restartHoldover

/-- Entry to LINE LOCK from SEARCH at a good line sync of spacing sp, taken at t with the output at z (07 R138). -/
def RefLock.toLineLock (c : RefLock) (t sp : Int) (z : OutPos) : RefLock :=
  { c with missCount := 0, prediction := some (t + sp), entered := false, windowSync := none, lineTime := t, lineGood := true,
           goodTime := t, sinceGood := 0, lineOut := some z, goodOut := z, pair := none }

/-- The identity that a pattern gives (07 R131). -/
def patternId : Pattern → FieldId
  | .onLine => .first
  | .halfLine => .second

/-- Entry to FRAME LOCK at the current line (07 R140). -/
def RefLock.toFrameLock (c : RefLock) (pat : Pattern) : RefLock :=
  { c with field := some { id := patternId pat, count := 0, predicted := false }, missCount := 0, parityCount := 0,
           waiting := false, pair := none }

/-- The line timing re-timed from the last good line sync at a confirmation taken at t (07 R146; log 20). -/
def RefLock.retime (c : RefLock) (t : Time) : RefLock :=
  let k := (t - c.goodTime) / c.period
  { c with lineTime := c.goodTime + k * c.period, lineGood := decide (k = 0), prediction := some (c.goodTime + (k + 1) * c.period),
           entered := false, windowSync := none, sinceGood := k.toNat, lineOut := if k = 0 then some c.goodOut else none }

/-- LINE LOCK after a confirmation that the setting does not allow (07 R146). -/
def RefLock.toLineLockPaired (c : RefLock) : RefLock :=
  { c with missCount := 0, parityCount := 0, waiting := false, field := none, pair := some 0 }

/-! ## Line syncs in SEARCH and FLYWHEEL (07 R137, R146) -/

/-- A line sync at t with a spacing that is not good. -/
def RefLock.badSpacing (c : RefLock) (t : Time) : RefLock := { c with lastSync := some t, goodCount := 0, waiting := false }

/-- A good line sync of spacing sp at t with the output at z. -/
def RefLock.goodSpacing (c : RefLock) (t sp : Int) (z : OutPos) : RefLock :=
  { c with lastSync := some t, goodCount := c.goodCount + 1, period := sp, goodTime := t, sinceGood := 0, goodOut := z }

/-- The good-line count reaches the qualify count. -/
def RefLock.qualified (c : RefLock) : Bool := decide (c.inForce.qualify ≤ c.goodCount)

/-- A line sync within the window makes the line good at its arrival, the output being at z (07 R138; log 23). -/
def RefLock.takeWindowSync (c : RefLock) (t : Time) (z : OutPos) : RefLock :=
  { c.ensureEntered with windowSync := some t, goodTime := t, sinceGood := 0, lineOut := some z, goodOut := z }

/-- The sync at t is the first in the window (07 R138). -/
def RefLock.firstInWindow (c : RefLock) (t : Time) : Bool := c.inWindow t && !(c.entered && c.windowSync.isSome)

/-- A predicted line passes in FLYWHEEL (07 R144). -/
def RefLock.flywheelLine (c : RefLock) (p : Time) : RefLock :=
  { c.enterLine with entered := false, lineTime := p, lineGood := false, prediction := some (p + c.period) }

/-! ## Field syncs in FRAME LOCK (07 R141, R142) -/

/-- What the table of 07 R141 makes of a field sync: the field, the recorded length, and the length faults added. -/
structure FieldTaken where
  field : RefField
  length : Nat
  faults : SyncFaults
  deriving DecidableEq, Repr

/-- The three lines of the table of 07 R141. -/
def takeFieldSync (std : Standard) (last : Nat) (f : RefField) : FieldTaken :=
  if f.predicted = true ∧ f.count = 0 then
    { field := { f with predicted := false }, length := last, faults := SyncFaults.none }
  else if f.predicted = true ∧ f.count ≤ 7 then
    { field := { id := f.id, count := 0, predicted := false }, length := expectedLines std f.id.other + f.count
      faults := { SyncFaults.none with longField := true } }
  else
    { field := { id := f.id.other, count := 0, predicted := false }, length := f.count
      faults := { SyncFaults.none with shortField := true } }

/-- The parity count after the comparison (07 R142). -/
def parityAfter (n : Nat) (agree : Bool) : Nat := if agree then 0 else n + 1

/-- The parity fault of a disagreement (07 R142). -/
def parityFault (agree : Bool) : SyncFaults := { SyncFaults.none with parity := !agree }

/-! ## Identification in LINE LOCK (07 R139) -/

/-- The standard that a pair of field syncs n lines apart identifies. -/
def pairStandard (n : Nat) : Option Standard :=
  if n = 312 ∨ n = 313 then some .s625 else if n = 262 ∨ n = 263 then some .s525 else none

/-! ## The phase error (07 R148) -/

/-- x reduced by whole frames into the range above -f/2 to f/2. -/
def reducePhase (f x : Int) : Int :=
  let y := x % f
  if f < 2 * y then y - f else y

/-- The phase error of reference line n against the output position z. -/
def phaseError (r : Raster) (n : Int) (z : OutPos) : Int := reducePhase r.frame16 ((n - z.line) * r.line16 - z.p)

/-- The measurement recorded as whole lines and sixteenths. -/
def RefLock.recordPhase (c : RefLock) (line16 e : Int) : RefLock :=
  { c with phaseLines := e.tdiv line16, phaseSixteenths := e.tmod line16 }

/-! ## The position for an align (07 R148, 08 R166) -/

/-- A frame position: line and sixteenths into it. -/
def advanceBy (std : Standard) (period n rem : Int) : OutPos :=
  { line := (n + rem / period) % frameLines std, p := rem % period }

/-- The reference's current frame position at the moment t in FRAME LOCK: from the last good line (log 34). -/
def lockedPosition (c : RefLock) (std : Standard) (f : RefField) (t : Time) : OutPos :=
  advanceBy std c.period (refFrameLine std f - c.sinceGood) (t - c.goodTime)

/-- The frame position carried forward in FLYWHEEL. -/
def carriedPosition (c : RefLock) (std : Standard) (f : RefField) (t : Time) : OutPos :=
  advanceBy std c.period (refFrameLine std f) (t - c.currentTime)

/-- The new position of a hard align at the moment t (08 R166 item 1). -/
def alignPosition (c : RefLock) (t : Time) : OutPos :=
  match c.lock, c.standard, c.field with
  | .frameLock, some std, some f => lockedPosition c std f t
  | .flywheel, some std, some f => carriedPosition c std f t
  | _, _, _ => { line := 0, p := 0 }

/-! ## The controller's share of a boundary (07 R145, R150, R151, R153) -/

/-- The holdover counter one boundary on. -/
def RefLock.holdoverNext (c : RefLock) : Nat := min (c.holdover + 1) 255

/-- The holdover expires at this boundary (07 R145). -/
def RefLock.expires (c : RefLock) : Bool :=
  decide (c.lock = .flywheel) && decide (c.inForce.holdover ≠ 0) && decide (c.inForce.holdover ≤ c.holdoverNext)

/-- Item 1 without an expiry. -/
def RefLock.countHoldover (c : RefLock) : RefLock := if c.lock = .flywheel then { c with holdover := c.holdoverNext } else c

/-- The timing image refreshed (07 R153 item 4). -/
def RefLock.imageNow (c : RefLock) (r : Raster) : TimingImage :=
  { lock := c.lock, slew := r.slew.name, source := c.source, standard := c.standard, period := c.period,
    fieldLength := c.fieldLength, phaseLines := c.phaseLines, phaseSixteenths := c.phaseSixteenths, offset := r.offset,
    fields := c.fields }

/-- Items 2 to 4 of 07 R153. -/
def RefLock.finishShare (c : RefLock) (r : Raster) : RefLock :=
  let c' := { c with fields := min (c.fields + 1) 65535, srcsel := c.source, shareDue := false }
  { c' with image := c'.imageNow r }

/-! ## Over the whole state -/

/-- Kinds added to the sync-fault set; SYNC FAULT carries those that join it (07 R152). -/
def addFaults (s : State) (k : SyncFaults) : State :=
  let fresh := s.rlc.faults.newIn k
  let s' := s.withRlc { s.rlc with faults := s.rlc.faults.union k }
  if fresh.isEmpty then s' else raise s' (.syncFault fresh)

/-- A change of lock state: LOCK CHANGE, the fields in the state 0, and outside FRAME LOCK the slew state HOLD
(07 R151, 08 R160). -/
def changeLock (s : State) (new : LockState) : State :=
  let s' := raise (s.withRlc { s.rlc with lock := new, fields := 0 }) (.lockChange s.rlc.lock new)
  if new = .frameLock then s' else s'.withRaster (s'.raster.enterSlewState .hold)

/-- SEARCH entered from another state (07 R147). -/
def enterSearch (s : State) : State := changeLock (s.withRlc s.rlc.toSearch) .search

/-- FLYWHEEL entered from FRAME LOCK (07 R144). -/
def enterFlywheel (s : State) : State := changeLock (s.withRlc s.rlc.toFlywheel) .flywheel

/-- The controller's share of a boundary (07 R153). -/
def takeShare (s : State) : State :=
  if s.rlc.expires then
    let s' := enterSearch (addFaults s { SyncFaults.none with holdover := true })
    s'.withRlc (s'.rlc.finishShare s'.raster)
  else s.withRlc (s.rlc.countHoldover.finishShare s.raster)

/-- A share of an earlier boundary that is due, taken (log 11). -/
def settleShare (s : State) : State := if s.rlc.shareDue then takeShare s else s

/-- A phase error measured at the moment t for the current line with the output at z, recorded and handed to the Raster
Generator, when the standards are equal (07 R148). -/
def measurePhase (s : State) (z : OutPos) (t : Time) : State :=
  match s.rlc.standard, s.rlc.field with
  | some std, some f =>
    if std = s.raster.std then
      let e := phaseError s.raster (refFrameLine std f) z
      (s.withRlc (s.rlc.recordPhase s.raster.line16 e)).withRaster (s.raster.takePhase s.rlc.inForce.trackGain e t)
    else s
  | _, _ => s

end Sys2Proof.Machine
end

