-- ==== Sys2Proof/Machine/BoundaryOps.lean ====
section
/-! DEFINITION. A field boundary in every block (08 R158), hard aligns (08 R166), entries to FRAME LOCK (07 R140, 08 R161), and a line
start (03 R68). The order of the blocks inside a boundary is log 36. -/

namespace Sys2Proof.Machine

/-! ## The shares of the blocks -/

/-- A mark matches the field number (06 R120). -/
def Mark.matches (m : Mark) (f : FieldNo) : Bool := m.enable && decide (m.value = f)

/-- The occurrences of the marks. -/
def markDetails (c : FieldClock) (f : FieldNo) : List Detail :=
  (if c.markA.matches f then [.markA f] else []) ++ (if c.markB.matches f then [.markB f] else [])

/-- The interval timer expires at this boundary (06 R122). -/
def FieldClock.intervalEnds (c : FieldClock) : Bool :=
  decide (c.intervalLength ≠ 0) && decide (c.intervalLength ≤ c.intervalCount + 1)

/-- The counter and the interval timer one boundary on (06 R118, R122). -/
def FieldClock.boundary (c : FieldClock) : FieldClock :=
  { c with
    counter := c.counter + 1
    intervalCount := if c.intervalLength = 0 then c.intervalCount else if c.intervalEnds then 0 else c.intervalCount + 1 }

/-- The Field Clock's share of a boundary: counter, marks, interval timer, FIELD count (06 R118 to R129). -/
def clockBoundary (s : State) : State :=
  let q := { s.seq with intervalsDue := s.seq.intervalsDue + (if s.clock.intervalEnds then 1 else 0) }
  let s' := (raiseAll s (markDetails s.clock (s.clock.counter + 1))).withSeq q
  countField (s'.withClock s'.clock.boundary)

/-- The port takes the figures of the boundary for a waiting SYNC (09 R181). -/
def Job.takeFigures (j : Job) (f : FieldNo) (applied faulted : Nat) : Job :=
  match j with
  | .sync none => .sync (some { field := f, applied := applied, faulted := faulted })
  | .sync (some g) => .sync (some g)
  | .idle => .idle
  | .list l => .list l

/-- The Plate Table's share of the boundary carrying f: the four parts of 02 R38, the notices, the closings and the figures of the
boundary (02 R60). -/
def tableShare (s : State) (f : FieldNo) : State :=
  let w := tableBoundary f s.scenes s.table
  let s' := (raiseAll s w.notices).withTable w.table
  hand (s'.withPort { s'.port with job := s'.port.job.takeFigures f w.applied w.faulted })
    (List.replicate w.closings .closing)

/-- The Keyer's share (03 R63, R66). -/
def keyerShare (s : State) (f : FieldNo) : State :=
  s.withKeyer (latchKeyer s.keyer s.rlc.lock s.raster.slew s.table.slots f)

/-- The sequencer at a boundary: a delay is counted, and falls due at its last boundary; a stalled run may resume
(04 R98, R100; log 9). -/
def Sequencer.boundary (q : Sequencer) : Sequencer :=
  match q.state with
  | .delaying => if 1 < q.delay then { q with delay := q.delay - 1 } else { q with expiryDue := true }
  | .stalled => { q with resumeDue := true }
  | .halted => q
  | .waiting => q
  | .running => q

/-- The sequencer's share: its own count, and a MARK A event given when mark A matches. The trigger is not taken here, so that it
can come before or after whatever else the boundary gives (04 R88, R90; 06 R120, R128; log 8). -/
def seqShare (s : State) (matched : Bool) : State :=
  s.withSeq { s.seq.boundary with marksDue := s.seq.marksDue + (if matched then 1 else 0) }

/-- A MARK A event reaches the sequencer (04 R88; 06 R120, R128; log 8). -/
def takeMark (s : State) : State :=
  let s' := s.withSeq { s.seq with marksDue := s.seq.marksDue - 1 }
  if s'.seq.sources.markA then trigger s' else s'

/-- A MARK A event that waits, taken before the next line start (log 8). -/
def settleMark (s : State) : State := if s.seq.marksDue = 0 then s else takeMark s

/-- The Raster Generator's slew timer (08 R165). -/
def rasterShare (s : State) : State := s.withRaster s.raster.countTimer

/-- The controller's share: taken, or left due when the holdover expires at this boundary (07 R153; log 11). -/
def rlcShare (s : State) : State :=
  if s.rlc.expires then s.withRlc { s.rlc with shareDue := true } else takeShare s

/-- A field boundary taken by every block (08 R158; log 36). -/
def takeBoundary (s : State) : State :=
  let f := s.clock.counter + 1
  let matched := s.clock.markA.matches f
  rlcShare (rasterShare (seqShare (keyerShare (tableShare (clockBoundary (settleShare s)) f) f) matched))

/-- The natural end of a field: the boundary, and the raster at the start of the next field's first line (08 R158; log 7). -/
def endField (s : State) : State :=
  let s' := takeBoundary s
  s'.withRaster (s'.raster.toLine s'.raster.nextFieldLine)

/-! ## Hard aligns (08 R166) -/

/-- Item 5's end of the line in progress (03 R77). -/
def Keyer.endLine (k : Keyer) : Keyer := { k with row := none, spans := [] }

/-- The slew state that item 3 settles. -/
def alignSlew (lock : LockState) : Slew := if lock = .frameLock then .track else .hold

/-- The raster through items 2 to 4: the standard, the slew state, the pulse. -/
def Raster.alignStart (r : Raster) (lock : LockState) (std : Standard) : Raster :=
  { r.enterSlewState (alignSlew lock) with std := std }.lowerReset.releaseReset

/-- The standard after item 2. -/
def alignStandard (s : State) (cause : AlignCause) : Standard :=
  if cause = .standardChange then s.rlc.standard.getD s.raster.std else s.raster.std

/-- A hard align at the moment t (08 R166). -/
def hardAlign (s : State) (cause : AlignCause) (t : Time) : State :=
  let z := alignPosition s.rlc t
  let s1 := s.withRaster (s.raster.alignStart s.rlc.lock (alignStandard s cause))
  let s2 := takeBoundary (s1.withKeyer s1.keyer.endLine)
  raise (s2.withRaster (s2.raster.place z.line z.p t)) (.rasterReset cause)

/-! ## Entry to FRAME LOCK (07 R140, 08 R161) -/

/-- Orders 2 to 4 of the entry decision for the phase error e. -/
def entrySteer (s : State) (e : Int) (t : Time) : State :=
  if s.raster.captures e then s.withRaster (s.raster.enterSlewState .track)
  else if s.raster.params.quickAlign = true ∧ s.keyer.visible.isEmpty = true then hardAlign s .quickAlign t
  else s.withRaster (s.raster.enterSlewState (.slew (startRamp e)))

/-- The output's position at the current line's time (07 R148; log 19). -/
def entryOutput (s : State) : OutPos := s.rlc.lineOut.getD (s.raster.outAt s.rlc.currentTime)

/-- The entry decision (08 R161), with the phase error of the entry recorded when the standards are equal. -/
def entryDecision (s : State) (t : Time) : State :=
  match s.rlc.standard, s.rlc.field with
  | some std, some f =>
    if std = s.raster.std then
      let e := phaseError s.raster (refFrameLine std f) (entryOutput s)
      entrySteer (s.withRlc (s.rlc.recordPhase s.raster.line16 e)) e t
    else hardAlign s .standardChange t
  | _, _ => s

/-- FRAME LOCK entered at the current line by a field sync taken at t (07 R140). -/
def enterFrameLock (s : State) (pat : Pattern) (t : Time) : State :=
  entryDecision (changeLock (s.withRlc (s.rlc.toFrameLock pat)) .frameLock) t

/-! ## Line starts (03 R68, 08 R157) -/

/-- The start of the line that the raster stands at is taken by the Raster Generator and the Keyer. -/
def takeLineStart (s : State) : State :=
  let r := { s.raster with startDue := false, width := s.raster.params.activeWidth }.countSegment s.rlc.lock
  let row := rowOfLine r.std r.line
  raiseAll ((s.withRaster r).withKeyer (keyLine s.keyer s.rlc.lock r.width row)) (overflowNotice s.keyer r.width row)

/-- The raster moved to the next line's start, through the field boundary at the end of a field, unless it stands at one
(log 7). -/
def moveToLineStart (s : State) : State :=
  if s.raster.startDue then s
  else if s.raster.atFieldEnd then endField s
  else s.withRaster (s.raster.toLine (s.raster.line + 1))

/-- The next line start, or in its place the timeout align (08 R165). -/
def nextLineStart (s : State) : State :=
  if s.raster.timeoutNow then hardAlign s .slewTimeout s.raster.lineEnd
  else takeLineStart (moveToLineStart s)

/-! ## Segment ends (log 12) -/

/-- A segment end that is due, taken before the next line start. -/
def settleSegments (s : State) : State := s.withRaster (s.raster.settleSegment s.rlc.lock)

end Sys2Proof.Machine
end

