-- ==== Sys2Proof/Machine/ClockCommands.lean ====
section
/-! DEFINITION. The commands of the Field Clock (chapter 06). -/

namespace Sys2Proof.Machine

/-- SET FIELD COUNT (06 R119). -/
def setFieldCount (ops : List Byte) (s : State) : State := replyOkTo (s.withClock { s.clock with counter := op32 ops 0 })

/-- SET_FIELD_COUNT (06 R119). -/
def execSetFieldCount (s : State) : Host.Outcome State Fault Refusal := .next (withRequest reqSetFieldCount setFieldCount s)

/-- A mark written, and its attention cause cleared (06 R121). -/
def writeMark (m : Mark) (which : Nat) (s : State) : State :=
  if which = 0 then (s.withClock { s.clock with markA := m }).withAtt (s.att.clear .markA)
  else (s.withClock { s.clock with markB := m }).withAtt (s.att.clear .markB)

/-- SET MARK (06 R121). -/
def setMark (ops : List Byte) (s : State) : State :=
  withOperands (decide (op8 ops 0 ≤ 1) && decide (op8 ops 5 ≤ 1))
    (fun s => replyOkTo (writeMark { value := op32 ops 1, enable := op8 ops 5 == 1 } (op8 ops 0) s)) s

/-- SET_MARK (06 R121). -/
def execSetMark (s : State) : Host.Outcome State Fault Refusal := .next (withRequest reqSetMark setMark s)

/-- SET INTERVAL (06 R123). -/
def setInterval (ops : List Byte) (s : State) : State :=
  withOperands (decide (op16 ops 0 ≤ 4095))
    (fun s => replyOkTo (s.withClock { s.clock with intervalLength := op16 ops 0, intervalCount := 0 })) s

/-- SET_INTERVAL (06 R123). -/
def execSetInterval (s : State) : Host.Outcome State Fault Refusal := .next (withRequest reqSetInterval setInterval s)

/-- The event counter under new settings, loaded with the preset; events handed before and not yet counted are counted under
them (06 R127; log 10). -/
def FieldClock.setCounter (c : FieldClock) (preset : Nat) (select : EventSelect) (halt : Bool) : FieldClock :=
  { c with preset := preset, count := preset, select := select, haltOnCount := halt }.drain

/-- SET COUNTER (06 R127). -/
def setCounter (ops : List Byte) (s : State) : State :=
  withOperands (decide (op8 ops 2 < 32) && decide (op8 ops 3 ≤ 1))
    (fun s => replyOkTo (s.withClock (s.clock.setCounter (op16 ops 0) (selectOf (opByte ops 2)) (op8 ops 3 == 1)))) s

/-- SET_COUNTER (06 R127). -/
def execSetCounter (s : State) : Host.Outcome State Fault Refusal := .next (withRequest reqSetCounter setCounter s)

/-- READ COUNTERS (06 R129). -/
def readCounters (s : State) : State :=
  reply s replyData (le32 s.clock.counter ++ le16 s.clock.count ++ le16 s.clock.intervalCount)

/-- READ_COUNTERS (06 R129). -/
def execReadCounters (s : State) : Host.Outcome State Fault Refusal :=
  .next (withRequest reqReadCounters (fun _ => readCounters) s)

/-- An INTERVAL event reaches the sequencer (06 R122, R128; 04 R88; log 9). -/
def takeInterval (s : State) : State :=
  let s' := s.withSeq { s.seq with intervalsDue := s.seq.intervalsDue - 1 }
  if s'.seq.sources.interval then trigger s' else s'

/-- INTERVAL_EXPIRY (06 R122). -/
def execIntervalExpiry (s : State) : Host.Outcome State Fault Refusal :=
  .next (if s.seq.intervalsDue = 0 then s else takeInterval s)

/-- The event that takes the counter to 0, counted, and those behind it (06 R125; log 10). -/
def takeCountDone (s : State) : State :=
  counterDone (s.withClock { s.clock with handed := s.clock.handed.tail })

/-- COUNT_DONE (06 R125). -/
def execCountDone (s : State) : Host.Outcome State Fault Refusal := .next (if s.clock.doneDue then takeCountDone s else s)

/-- A halt given by the counter reaches the sequencer (06 R125, 04 R87; log 9). -/
def takeHalt (s : State) : State := haltSequencer (s.withSeq { s.seq with haltsDue := s.seq.haltsDue - 1 })

/-- HALT_ON_COUNT (06 R125). -/
def execHaltOnCount (s : State) : Host.Outcome State Fault Refusal := .next (if s.seq.haltsDue = 0 then s else takeHalt s)

end Sys2Proof.Machine
end

