-- ==== Sys2Proof/Machine/CueCommands.lean ====
section
/-! DEFINITION. The commands of the Cue Sequencer (chapter 04). -/

namespace Sys2Proof.Machine

/-- SEQUENCER ACTIVE unless the sequencer is HALTED (04 R82, R84, R86). -/
def whenHalted (k : State → State) (s : State) : State :=
  if s.seq.state = .halted then k s else reply s replySequencerActive []

/-! ## WRITE CUES and READ CUES -/

/-- The number of entries in the operands of a WRITE CUES. -/
def cueCount (ops : List Byte) : Nat := (ops.length - 1) / 4

/-- Order 1 of 04 R82. -/
def writeCuesOk (ops : List Byte) : Bool :=
  decide (op8 ops 0 + cueCount ops ≤ 128) && (List.range (cueCount ops)).all fun k => cueOk ops (1 + 4 * k)

/-- The list with n entries written from index i, taken from the operand bytes from position k on (04 R82). -/
def writeEntries (ops : List Byte) : Nat → Nat → Nat → Vector CueEntry 128 → Vector CueEntry 128
  | 0, _, _, v => v
  | n + 1, i, k, v => writeEntries ops n (i + 1) (k + 4) (v.set (i % 128) (cueEntryAt ops k) (Nat.mod_lt _ (by omega)))

/-- WRITE CUES (04 R82). -/
def writeCues (ops : List Byte) (s : State) : State :=
  withOperands (writeCuesOk ops)
    (whenHalted fun s =>
      replyOkTo (s.withSeq { s.seq with cues := writeEntries ops (cueCount ops) (op8 ops 0) 1 s.seq.cues })) s

/-- WRITE_CUES (04 R82). -/
def execWriteCues (s : State) : Host.Outcome State Fault Refusal := .next (withRequest reqWriteCues writeCues s)

/-- The range check of 04 R83. -/
def readCuesOk (ops : List Byte) : Bool :=
  decide (1 ≤ op8 ops 1) && decide (op8 ops 1 ≤ 7) && decide (op8 ops 0 + op8 ops 1 ≤ 128)

/-- The bytes of n entries from index i on. -/
def entryBytes (v : Vector CueEntry 128) (i n : Nat) : List Byte :=
  (List.range n).flatMap fun k => cueEntryBytes (v.get ⟨(i + k) % 128, Nat.mod_lt _ (by omega)⟩)

/-- READ CUES (04 R83). -/
def readCues (ops : List Byte) (s : State) : State :=
  withOperands (readCuesOk ops)
    (fun s => reply s replyData (seqStatus s.seq ++ entryBytes s.seq.cues (op8 ops 0) (op8 ops 1))) s

/-- READ_CUES (04 R83). -/
def execReadCues (s : State) : Host.Outcome State Fault Refusal := .next (withRequest reqReadCues readCues s)

/-! ## Settings and control -/

/-- The range check of 04 R84. -/
def setSequencerOk (ops : List Byte) : Bool := decide (op8 ops 0 ≤ 127) && decide (op8 ops 1 ≤ 1) && decide (op8 ops 2 < 8)

def seqModeOf (n : Nat) : SeqMode := if n = 0 then .once else .loop

/-- SET SEQUENCER (04 R84). -/
def setSequencer (ops : List Byte) (s : State) : State :=
  withOperands (setSequencerOk ops)
    (whenHalted fun s =>
      replyOkTo (s.withSeq { s.seq with loopStart := Fin.ofNat 128 (op8 ops 0), mode := seqModeOf (op8 ops 1),
                                        sources := sourcesOf (opByte ops 2) })) s

/-- SET_SEQUENCER (04 R84). -/
def execSetSequencer (s : State) : Host.Outcome State Fault Refusal := .next (withRequest reqSetSequencer setSequencer s)

/-- The pointer that a START gives, if any (04 R86). -/
def startPointer (ops : List Byte) (old : CueIndex) : CueIndex := if ops.isEmpty then old else Fin.ofNat 128 (op8 ops 0)

/-- START (04 R86). -/
def start (ops : List Byte) (s : State) : State :=
  withOperands (ops.isEmpty || decide (op8 ops 0 ≤ 127))
    (whenHalted fun s =>
      replyOkTo (s.withSeq { s.seq with state := .waiting, pointer := startPointer ops s.seq.pointer })) s

/-- START (04 R86). -/
def execStart (s : State) : Host.Outcome State Fault Refusal := .next (withRequest reqStart start s)

/-- HALT (04 R87). -/
def halt (s : State) : State := replyOkTo (haltSequencer s)

/-- HALT (04 R87). -/
def execHalt (s : State) : Host.Outcome State Fault Refusal := .next (withRequest reqHalt (fun _ => halt) s)

/-- STEP (04 R91). -/
def stepTrigger (s : State) : State := replyOkTo (trigger s)

/-- STEP (04 R91). -/
def execStep (s : State) : Host.Outcome State Fault Refusal := .next (withRequest reqStep (fun _ => stepTrigger) s)

/-! ## DO CUE (04 R102) -/

/-- CUE NOTIFY with index 255 for an executed entry. -/
def notifyDoCue (e : CueEntry) (s : State) : State := raiseAll s (notifyDetails e 0xFF#8)

/-- The entry executed by DO CUE. -/
def executeEntry (e : CueEntry) (s : State) : State :=
  match e.amendment? with
  | none => replyOkTo (notifyDoCue e s)
  | some op =>
    if s.table.hasRoom then reply (notifyDoCue e (post s .request op)) replyQueued [byteOf (s.table.queue.length + 1)]
    else reply s replyQueueFull []

/-- DO CUE (04 R102). -/
def doCue (ops : List Byte) (s : State) : State := withOperands (cueOk ops 0) (executeEntry (cueEntryAt ops 0)) s

/-- DO_CUE (04 R102). -/
def execDoCue (s : State) : Host.Outcome State Fault Refusal := .next (withRequest reqDoCue doCue s)

/-! ## Events of the sequencer -/

/-- A rising edge of CUE IN: a CUE IN event, and a trigger when CUE IN is a source (04 R88, 06 R124). When the edge's own count takes
the event counter to 0 with halt-on-count, the trigger comes first and the halt waits for its rows: 04 R90 leaves the order open
(DESIGN CHOICE, log 39). -/
def cueInEdge (s : State) : State :=
  let s' := hand s [.cueIn]
  if s'.seq.sources.cueIn then trigger s' else s'

/-- CUE_IN_EDGE (04 R88). -/
def execCueInEdge (s : State) : Host.Outcome State Fault Refusal := .next (cueInEdge s)

/-- CUE_EXECUTION: the cue at the pointer of a run in progress (04 R93). -/
def execCueExecution (s : State) : Host.Outcome State Fault Refusal :=
  .next (if s.seq.state = .running then executeCue s else s)

/-- A stalled run resumes with its run count and executes the stalled cue (04 R100). -/
def resumeRun (s : State) : State := executeCue (s.withSeq { s.seq with state := .running, resumeDue := false })

/-- STALL_RESUMPTION (04 R100). -/
def execStallResumption (s : State) : Host.Outcome State Fault Refusal :=
  .next (if s.seq.state = .stalled ∧ s.seq.resumeDue = true then resumeRun s else s)

/-- DELAY_EXPIRY: the delay that has run out starts a run at the pointer (04 R98; log 9, log 14). -/
def execDelayExpiry (s : State) : Host.Outcome State Fault Refusal :=
  .next (if s.seq.state = .delaying ∧ s.seq.expiryDue = true then s.withSeq s.seq.running else s)

end Sys2Proof.Machine
end

