-- ==== Sys2Proof/Machine/KeyingCommands.lean ====
section
/-! DEFINITION. The requests of the Keyer (chapter 03). -/

namespace Sys2Proof.Machine

/-- The levels of 16 operand bytes. -/
def levelsOf (ops : List Byte) : Vector Nat 16 := ⟨((List.finRange 16).map fun i => op8 ops i.val).toArray, by simp⟩

/-- SET LEVELS (03 R67). -/
def setLevels (ops : List Byte) (s : State) : State :=
  withOperands (ops.all fun b => decide (b.toNat ≤ 4))
    (fun s => replyOkTo (s.withKeyer { s.keyer with pendingLevels := levelsOf ops })) s

/-- SET_LEVELS (03 R67). -/
def execSetLevels (s : State) : Host.Outcome State Fault Refusal := .next (withRequest reqSetLevels setLevels s)

/-- SET KEYING (03 R76). -/
def setKeying (ops : List Byte) (s : State) : State :=
  withOperands (decide (op8 ops 0 ≤ 2)) (fun s => replyOkTo (s.withKeyer { s.keyer with fallback := fallbackOf (op8 ops 0) })) s

/-- SET_KEYING (03 R76). -/
def execSetKeying (s : State) : Host.Outcome State Fault Refusal := .next (withRequest reqSetKeying setKeying s)

end Sys2Proof.Machine
end

