-- ==== Sys2Proof/Machine/PlateCommands.lean ====
section
/-! DEFINITION. The posting requests and the look-ups of the Plate Table (chapters 01 and 02). -/

namespace Sys2Proof.Machine

/-! ## Posting requests (02 R33 to R35) -/

/-- PLACE (02 R33, R34). -/
def postPlace (ops : List Byte) (s : State) : State :=
  withOperands (placeOk ops) (postRequest (.place (placeSlot ops) (placeFields ops))) s

/-- PLACE (02 R33). -/
def execPlace (s : State) : Host.Outcome State Fault Refusal := .next (withRequest reqPlace postPlace s)

/-- AMEND (02 R35). -/
def postAmend (ops : List Byte) (s : State) : State :=
  withOperands (amendOk ops) (postRequest (.amend (opByte ops 0) (amendFields ops))) s

/-- AMEND (02 R35). -/
def execAmend (s : State) : Host.Outcome State Fault Refusal := .next (withRequest reqAmend postAmend s)

/-- A posting request whose one operand is a tag (02 R34). -/
def postTag (mk : Byte → AmendOp) (ops : List Byte) (s : State) : State :=
  withOperands (tagOk (opByte ops 0)) (postRequest (mk (opByte ops 0))) s

/-- SHOW (02 R33). -/
def execShow (s : State) : Host.Outcome State Fault Refusal := .next (withRequest reqShow (postTag .showPlate) s)

/-- CLOSE (02 R33). -/
def execClose (s : State) : Host.Outcome State Fault Refusal := .next (withRequest reqClose (postTag .close) s)

/-- DROP (02 R33). -/
def execDrop (s : State) : Host.Outcome State Fault Refusal := .next (withRequest reqDrop (postTag .drop) s)

/-- GROUP CLOSE (02 R33, R34). -/
def postGroupClose (ops : List Byte) (s : State) : State :=
  withOperands (decide (op8 ops 0 ≤ 7)) (postRequest (.groupClose (op8 ops 0))) s

/-- GROUP_CLOSE (02 R33). -/
def execGroupClose (s : State) : Host.Outcome State Fault Refusal := .next (withRequest reqGroupClose postGroupClose s)

/-- GROUP MOVE (02 R33, R34). -/
def postGroupMove (ops : List Byte) (s : State) : State :=
  withOperands (decide (op8 ops 0 ≤ 7)) (postRequest (.groupMove (op8 ops 0) (sop8 ops 1) (sop8 ops 2))) s

/-- GROUP_MOVE (02 R33). -/
def execGroupMove (s : State) : Host.Outcome State Fault Refusal := .next (withRequest reqGroupMove postGroupMove s)

/-- SET PINNED (01 R16, 02 R34). -/
def postSetPinned (ops : List Byte) (s : State) : State :=
  withOperands (decide (op8 ops 0 ≤ 32)) (postRequest (.setPinned (op8 ops 0))) s

/-- SET_PINNED (01 R16). -/
def execSetPinned (s : State) : Host.Outcome State Fault Refusal := .next (withRequest reqSetPinned postSetPinned s)

/-! ## QUERY (01 R23, R24) -/

/-- The answer for a tag: the plate's record and the count of queued amendments that name it, or NOT FOUND with the count. -/
def answerQuery (tag : Byte) (s : State) : State :=
  let n := byteOf (queuedNaming s.table.queue tag)
  match (findTag s.table.slots tag).bind fun i => (slotAt s.table.slots i).map fun p => plateRecord i s.clock.counter p with
  | some body => reply s replyData (body ++ [n])
  | none => reply s replyNotFound [n]

/-- QUERY (01 R23). -/
def query (ops : List Byte) (s : State) : State := withOperands (tagOk (opByte ops 0)) (answerQuery (opByte ops 0)) s

/-- QUERY (01 R23). -/
def execQuery (s : State) : Host.Outcome State Fault Refusal := .next (withRequest reqQuery query s)

/-! ## PROBE (01 R25) -/

/-- The answer for a position of the picture. -/
def answerProbe (r c : Nat) (s : State) : State :=
  let vs := coveringPlates s.keyer.visible r c
  match highestPlate vs with
  | none => reply s replyNotFound []
  | some v => reply s replyData [v.tag, byteOf vs.length]

/-- PROBE; the columns are those of the width in force (01 R25, 08 R170; log 32). -/
def probe (ops : List Byte) (s : State) : State :=
  withOperands (decide (op16 ops 0 < pictureRows s.raster.std) && decide (op16 ops 2 < s.raster.width))
    (answerProbe (op16 ops 0) (op16 ops 2)) s

/-- PROBE (01 R25). -/
def execProbe (s : State) : Host.Outcome State Fault Refusal := .next (withRequest reqProbe probe s)

/-! ## LIST (01 R26 to R29) -/

/-- The LIST that operands begin. -/
def listOf (ops : List Byte) : ListJob :=
  { armed := (opByte ops 0).getLsbD 0, shown := (opByte ops 0).getLsbD 1, closing := (opByte ops 0).getLsbD 2,
    groups := opByte ops 1, cursor := 0, items := 0, suspended := false }

/-- LIST begins (01 R26). -/
def beginList (ops : List Byte) (s : State) : State :=
  withOperands (decide (op8 ops 0 < 8)) (fun s => s.withPort { s.port with job := .list (listOf ops) }) s

/-- LIST (01 R26). -/
def execList (s : State) : Host.Outcome State Fault Refusal := .next (withRequest reqList beginList s)

/-- The plate matches the LIST's state set and group set (01 R26). -/
def ListJob.wants (j : ListJob) (p : Plate) : Bool :=
  j.groups.getLsbD p.group &&
    (match p.state with
      | .armed => j.armed
      | .shown => j.shown
      | .closing => j.closing)

/-- The matching plate at the cursor, if there is one. -/
def ListJob.match? (j : ListJob) (ts : Slots) (i : Slot) : Option Plate := (slotAt ts i).filter j.wants

/-- The slot at the cursor examined (01 R27, R28). -/
def examineSlot (j : ListJob) (i : Slot) (s : State) : State :=
  match j.match? s.table.slots i with
  | none => s.withPort { s.port with job := .list { j with cursor := j.cursor + 1 } }
  | some p =>
    if 32 ≤ s.port.room then
      reply (s.withPort { s.port with job := .list { j with cursor := j.cursor + 1, items := j.items + 1 } }) replyListItem
        (plateRecord i s.clock.counter p)
    else s.withPort { s.port with job := .list { j with suspended := true } }

/-- One step of a LIST that is not suspended and has a slot to examine. -/
def stepList (s : State) : State :=
  match s.port.job with
  | .list j =>
    if h : j.cursor < 32 then
      if j.suspended then s else examineSlot j ⟨j.cursor, h⟩ s
    else s
  | .sync _ => s
  | .idle => s

/-- LIST_SLOT_EXAMINE (01 R27). -/
def execListSlotExamine (s : State) : Host.Outcome State Fault Refusal := .next (stepList s)

/-- A suspended LIST resumes when 32 bytes are free; its slot is examined again by the next examination (01 R28). -/
def resumeList (s : State) : State :=
  match s.port.job with
  | .list j =>
    if j.suspended = true ∧ 32 ≤ s.port.room then s.withPort { s.port with job := .list { j with suspended := false } } else s
  | .sync _ => s
  | .idle => s

/-- LIST_RESUME (01 R28). -/
def execListResume (s : State) : Host.Outcome State Fault Refusal := .next (resumeList s)

/-- LIST END, when the cursor has passed slot 31 and 7 bytes are free (01 R29). -/
def endList (s : State) : State :=
  match s.port.job with
  | .list j =>
    if 32 ≤ j.cursor ∧ 7 ≤ s.port.room then
      reply (s.withPort { s.port with job := .idle }) replyListEnd (byteOf j.items :: le32 s.clock.counter)
    else s
  | .sync _ => s
  | .idle => s

/-- LIST_END (01 R29). -/
def execListEnd (s : State) : Host.Outcome State Fault Refusal := .next (endList s)

end Sys2Proof.Machine
end

