-- ==== Sys2Proof/Machine/PortCommands.lean ====
section
/-! DEFINITION. The port's own commands and the Attention Unit's requests (chapters 09 and 10), and POWER_ON_RESET (08 R171). -/

namespace Sys2Proof.Machine

/-- The part while RESET is Low: every block at its power-on values, RASTER RESET held Low (08 R171; 01 R30, 03 R78, 04 R104,
05 R117, 06 R130, 07 R155, 09 R186, 10 R194); the commands that wait are kept (log 16). -/
def holdReset (s : State) : State :=
  (State.reset.withRaster { Raster.reset with pulses := 0 }.lowerReset).withPending s.pending

/-- RESET goes High: RASTER RESET is released and the raster begins (08 R171). -/
def releaseReset (s : State) : State := s.withRaster s.raster.releaseReset

/-- POWER_ON_RESET: RESET Low and High again (08 R171; log 16). -/
def execPowerOnReset (s : State) : Host.Outcome State Fault Refusal := .next (releaseReset (holdReset s))

/-- A byte offered to the request FIFO (09 R174, R176). -/
def writeRequestByte (b : Byte) (s : State) : State :=
  if s.port.rejecting then s
  else if Config.requestFifoSize ≤ s.port.requests.length then
    raise (s.withPort { s.port with rejecting := true }) .portOverrun
  else s.withPort { s.port with requests := s.port.requests ++ [b] }

/-- REQUEST_BYTE_WRITE (09 R174). -/
def execRequestByteWrite (b : Byte) (s : State) : Host.Outcome State Fault Refusal := .next (writeRequestByte b s)

/-- A read of location 0 (09 R172; log 17). -/
def readReplyByte (s : State) : State :=
  match s.port.replies with
  | [] => s.withPort { s.port with lastRead := 0 }
  | b :: rest => s.withPort { s.port with replies := rest, lastRead := b }

/-- REPLY_BYTE_READ (09 R172). -/
def execReplyByteRead (s : State) : Host.Outcome State Fault Refusal := .next (readReplyByte s)

/-- ABORT (09 R183, R185; log 18). -/
def execAbort (ctl : Byte) (s : State) : Host.Outcome State Fault Refusal := .next (portControl ctl s)

/-- SOFT_RESET (09 R184, R185; log 18). -/
def execSoftReset (ctl : Byte) (s : State) : Host.Outcome State Fault Refusal := .next (portControl ctl s)

/-- A clearing write to location 2 or 3 (10 R190; log 18). -/
def clearCauses (loc : BitVec 2) (bits : Byte) (s : State) : State :=
  if loc = 2#2 then s.withAtt (s.att.clearBits bits.toNat)
  else if loc = 3#2 then s.withAtt (s.att.clearBits (bits.toNat * 256))
  else s

/-- ATTENTION_CLEAR (10 R190). -/
def execAttentionClear (loc : BitVec 2) (bits : Byte) (s : State) : Host.Outcome State Fault Refusal :=
  .next (clearCauses loc bits s)

/-- A complete request whose code is not in the table (09 R178 order 1; its largest reply is 2 bytes, R177). -/
def refuseUnknown (s : State) : State :=
  match framed s.port.requests with
  | none => s
  | some (c, ops) =>
    if knownCode c = false ∧ s.port.ready 2 = true then reply (consume s (ops.length + 2)) replyBadRequest [] else s

/-- UNKNOWN_REQUEST (09 R178). -/
def execUnknownRequest (s : State) : Host.Outcome State Fault Refusal := .next (refuseUnknown s)

/-- The length byte at the head is above 30 (09 R175). -/
def unframeable : List Byte → Bool
  | _ :: n :: _ => decide (Config.maxOperands < n.toNat)
  | _ => false

/-- A length byte above 30: code and length byte consumed, BAD LENGTH (09 R175). -/
def refuseUnframeable (s : State) : State :=
  if unframeable s.port.requests = true ∧ s.port.ready 2 = true then reply (consume s 2) replyBadLength [] else s

/-- UNFRAMEABLE_REQUEST (09 R175). -/
def execUnframeableRequest (s : State) : Host.Outcome State Fault Refusal := .next (refuseUnframeable s)

/-- SYNC begins and waits for a boundary (09 R181). -/
def beginSync (s : State) : State := s.withPort { s.port with job := .sync none }

/-- SYNC (09 R181). -/
def execSync (s : State) : Host.Outcome State Fault Refusal := .next (withRequest reqSync (fun _ => beginSync) s)

/-- The body of a FIELD REPORT; the depth is that of the moment of writing (09 R182). -/
def reportBody (g : SyncFigures) (depth : Nat) : List Byte :=
  le32 g.field ++ [byteOf g.applied, byteOf g.faulted, byteOf depth]

/-- The FIELD REPORT of an answered SYNC, when 9 bytes are free (09 R181, R182). -/
def writeReport (s : State) : State :=
  match s.port.job with
  | .sync (some g) =>
    if 9 ≤ s.port.room then
      reply (s.withPort { s.port with job := .idle }) replyFieldReport (reportBody g s.table.queue.length)
    else s
  | .sync none => s
  | .list _ => s
  | .idle => s

/-- FIELD_REPORT (09 R182). -/
def execFieldReport (s : State) : Host.Outcome State Fault Refusal := .next (writeReport s)

/-- SET ENABLES (10 R191). -/
def setEnables (ops : List Byte) (s : State) : State := replyOkTo (s.withAtt (s.att.setEnables (op16 ops 0)))

/-- SET_ENABLES (10 R191). -/
def execSetEnables (s : State) : Host.Outcome State Fault Refusal := .next (withRequest reqSetEnables setEnables s)

/-- READ ATTENTION (10 R193). -/
def readAttention (s : State) : State := reply s replyData s.att.body

/-- READ_ATTENTION (10 R193). -/
def execReadAttention (s : State) : Host.Outcome State Fault Refusal :=
  .next (withRequest reqReadAttention (fun _ => readAttention) s)

end Sys2Proof.Machine
end

