-- ==== Sys2Proof/Machine/RasterCommands.lean ====
section
/-! DEFINITION. The commands of the Raster Generator (chapter 08) and the Keyer's line start (03 R68). -/

namespace Sys2Proof.Machine

/-- The line length of the output standard differs in the new parameters (08 R170). -/
def lengthChanges (r : Raster) (q : RasterParams) : Bool := decide (q.lineLength r.std ≠ r.params.lineLength r.std)

/-- The nine parameters replaced at the moment t, with the new prediction and the align of a changed line length (08 R169,
R170). -/
def replaceParams (q : RasterParams) (t : Time) (s : State) : State :=
  let s' := (s.withRlc (s.rlc.repredict s.raster.params q)).withRaster (s.raster.setParams q t)
  if lengthChanges s.raster q then hardAlign s' .lineLength t else s'

/-- SET RASTER (08 R169). -/
def setRaster (t : Time) (ops : List Byte) (s : State) : State :=
  withOperands (rasterOk ops) (fun s => replyOkTo (replaceParams (rasterFields ops) t s)) s

/-- SET_RASTER (08 R169). -/
def execSetRaster (t : Time) (s : State) : Host.Outcome State Fault Refusal := .next (withRequest reqSetRaster (setRaster t) s)

/-- ALIGN NOW (08 R167). -/
def alignNow (t : Time) (s : State) : State :=
  if s.rlc.lock = .frameLock then replyOkTo (hardAlign s .alignRequest t) else reply s replyNoReference []

/-- ALIGN_NOW (08 R167). -/
def execAlignNow (t : Time) (s : State) : Host.Outcome State Fault Refusal :=
  .next (withRequest reqAlignNow (fun _ => alignNow t) s)

/-- The field in progress can end: its last line is in progress (08 R158, R168). -/
def Raster.fieldEnds (r : Raster) : Bool := r.atFieldEnd && !r.startDue

/-- FIELD_BOUNDARY: the output field in progress ends, at its last line (08 R158, R168; log 7). -/
def execFieldBoundary (s : State) : Host.Outcome State Fault Refusal := .next (if s.raster.fieldEnds then endField s else s)

/-- SLEW_TIMEOUT: the timeout align, at the start of field line 1 (08 R165; log 13). -/
def execSlewTimeout (s : State) : Host.Outcome State Fault Refusal :=
  .next (if s.raster.timeoutNow then hardAlign s .slewTimeout s.raster.lineEnd else s)

/-- LINE_START (03 R68, 08 R157; log 7, log 8, log 12, log 13). -/
def execLineStart (s : State) : Host.Outcome State Fault Refusal := .next (nextLineStart (settleSegments (settleMark s)))

/-- A segment end is due in SLEW (08 R163). -/
def Raster.slewSegmentDue (r : Raster) : Bool :=
  r.segDue &&
    (match r.slew with
      | .slew _ => true
      | .hold => false
      | .track => false)

/-- SEGMENT_END (08 R163; log 12). -/
def execSegmentEnd (s : State) : Host.Outcome State Fault Refusal :=
  .next (if s.raster.slewSegmentDue then s.withRaster s.raster.rampSegment else s)

/-- A decay segment is due in HOLD under SEARCH or LINE LOCK (08 R160). -/
def Raster.holdSegmentDue (r : Raster) (lock : LockState) : Bool :=
  r.segDue && decide (r.slew = .hold) && lock.decays

/-- HOLD_DECAY_SEGMENT (08 R160; log 12). -/
def execHoldDecaySegment (s : State) : Host.Outcome State Fault Refusal :=
  .next (if s.raster.holdSegmentDue s.rlc.lock then s.withRaster (s.raster.decaySegment s.rlc.lock) else s)

end Sys2Proof.Machine
end

