-- ==== Sys2Proof/Machine/ReferenceCommands.lean ====
section
/-! DEFINITION. The commands of the Reference Lock Controller (chapter 07). -/

namespace Sys2Proof.Machine

/-! ## Requests -/

/-- The lock state moved by a switch of source; the source is already the new one (07 R149). -/
def moveForSwitch (s : State) : State :=
  match s.rlc.lock with
  | .search => s.withRlc { s.rlc.toSearch with fields := 0 }
  | .lineLock => enterSearch s
  | .frameLock => enterFlywheel s
  | .flywheel => s.withRlc { s.rlc.restartHoldover with fields := 0 }

/-- SELECT SOURCE (07 R149). -/
def selectSource (ops : List Byte) (s : State) : State :=
  withOperands (decide (op8 ops 0 ≤ 1))
    (fun s =>
      if inputOf (op8 ops 0) = s.rlc.source then replyOkTo s
      else replyOkTo (moveForSwitch (s.withRlc { s.rlc with source := inputOf (op8 ops 0) }))) s

/-- SELECT_SOURCE (07 R149). -/
def execSelectSource (s : State) : Host.Outcome State Fault Refusal := .next (withRequest reqSelectSource selectSource s)

/-- The controller with one profile replaced (07 R134). -/
def RefLock.setProfile (c : RefLock) (v : Profile) : ProfileName → RefLock
  | .broadcast => { c with broadcast := v }
  | .tape => { c with tape := v }

/-- SET PROFILE (07 R134). -/
def setProfile (ops : List Byte) (s : State) : State :=
  withOperands (profileOk ops)
    (fun s => replyOkTo (s.withRlc (s.rlc.setProfile (profileFields ops) (profileOf (op8 ops 0))))) s

/-- SET_PROFILE (07 R134). -/
def execSetProfile (s : State) : Host.Outcome State Fault Refusal := .next (withRequest reqSetProfile setProfile s)

/-- The controller with one assignment replaced (07 R135). -/
def RefLock.assign (c : RefLock) (v : ProfileName) : Input → RefLock
  | .a => { c with assignA := v }
  | .b => { c with assignB := v }

/-- SET INPUT (07 R135). -/
def setInput (ops : List Byte) (s : State) : State :=
  withOperands (decide (op8 ops 0 ≤ 1) && decide (op8 ops 1 ≤ 1))
    (fun s => replyOkTo (s.withRlc (s.rlc.assign (profileOf (op8 ops 1)) (inputOf (op8 ops 0))))) s

/-- SET_INPUT (07 R135). -/
def execSetInput (s : State) : Host.Outcome State Fault Refusal := .next (withRequest reqSetInput setInput s)

/-- The setting disallows the reference's standard in FRAME LOCK (07 R136). -/
def RefLock.disallowed (c : RefLock) : Bool :=
  match c.lock, c.standard with
  | .frameLock, some std => !c.setting.allows std
  | _, _ => false

/-- FRAME LOCK left for LINE LOCK with the line timing kept; pair is the first line count of a new pair, if any
(07 R136, R142). -/
def dropToLineLock (s : State) (pair : Option Nat) : State :=
  changeLock (s.withRlc { s.rlc with field := none, pair := pair }) .lineLock

/-- The setting takes effect (07 R136). -/
def applySetting (s : State) : State :=
  if s.rlc.disallowed then dropToLineLock (addFaults s { SyncFaults.none with mismatch := true }) none else s

/-- SET STANDARD (07 R136). -/
def setStandard (ops : List Byte) (s : State) : State :=
  withOperands (decide (op8 ops 0 ≤ 2))
    (fun s => replyOkTo (applySetting (s.withRlc { s.rlc with setting := settingOf (op8 ops 0) }))) s

/-- SET_STANDARD (07 R136). -/
def execSetStandard (s : State) : Host.Outcome State Fault Refusal := .next (withRequest reqSetStandard setStandard s)

/-- READ TIMING: image and sync-fault set, and the set is emptied (07 R154). -/
def readTiming (s : State) : State :=
  reply (s.withRlc { s.rlc with faults := SyncFaults.none }) replyData (timingBody s.rlc.image s.rlc.faults)

/-- READ_TIMING (07 R154). -/
def execReadTiming (s : State) : Host.Outcome State Fault Refusal := .next (withRequest reqReadTiming (fun _ => readTiming) s)

/-! ## Line syncs -/

/-- A line sync in SEARCH (07 R137). -/
def searchSync (t : Time) (s : State) : State :=
  match s.rlc.lastSync with
  | none => s.withRlc { s.rlc with lastSync := some t }
  | some t0 =>
    if s.rlc.searchGood s.raster.params (t - t0) then
      let c := s.rlc.goodSpacing t (t - t0) (s.raster.outAt t)
      if c.qualified then changeLock (s.withRlc (c.toLineLock t (t - t0) (s.raster.outAt t))) .lineLock else s.withRlc c
    else s.withRlc (s.rlc.badSpacing t)

/-- A line sync in FLYWHEEL (07 R146). -/
def flywheelSync (t : Time) (s : State) : State :=
  match s.rlc.lastSync with
  | none => s.withRlc { s.rlc with lastSync := some t }
  | some t0 =>
    if s.rlc.flywheelGood s.raster.params (t - t0) then
      let c := s.rlc.goodSpacing t (t - t0) (s.raster.outAt t)
      s.withRlc { c with waiting := c.waiting || c.qualified }
    else s.withRlc (s.rlc.badSpacing t)

/-- A line sync in LINE LOCK or FRAME LOCK: the first in its window makes the line good, and in FRAME LOCK outside the
head-switch zone the phase error is measured (07 R138, R143, R148). -/
def windowedSync (t : Time) (s : State) : State :=
  if s.rlc.firstInWindow t then
    let z := s.raster.outAt t
    let s' := s.withRlc { s.rlc.takeWindowSync t z with lastSync := some t }
    if s'.rlc.lock = .frameLock ∧ s'.rlc.inZone = false then measurePhase s' z t else s'
  else s.withRlc { s.rlc with lastSync := some t }

/-- A line sync of an input at the moment t (07 R131, R137). -/
def lineSync (input : Input) (t : Time) (s : State) : State :=
  if input = s.rlc.source then
    match s.rlc.lock with
    | .search => searchSync t s
    | .lineLock => windowedSync t s
    | .frameLock => windowedSync t s
    | .flywheel => flywheelSync t s
  else s

/-- LINE_SYNC (07 R137). -/
def execLineSync (input : Input) (t : Time) (s : State) : Host.Outcome State Fault Refusal := .next (lineSync input t s)

/-! ## Windows and predicted lines -/

/-- The loss of lock at the miss limit (07 R138, R144). -/
def loseLines (s : State) : State :=
  match s.rlc.lock with
  | .lineLock => enterSearch s
  | .frameLock => enterFlywheel s
  | .search => s
  | .flywheel => s

/-- The window of the predicted line closes (07 R138, R143). -/
def closeWindow (s : State) : State :=
  let c := s.rlc.ensureEntered
  let s' := s.withRlc c.decideLine
  if c.missReachesLimit then loseLines s' else s'

/-- A predicted line's window can close: LINE LOCK or FRAME LOCK with a prediction (07 R138). -/
def RefLock.hasWindow (c : RefLock) : Bool :=
  (decide (c.lock = .lineLock) || decide (c.lock = .frameLock)) && c.prediction.isSome

/-- LINE_WINDOW_CLOSE (07 R138). -/
def execLineWindowClose (s : State) : Host.Outcome State Fault Refusal :=
  .next (if s.rlc.hasWindow then closeWindow s else s)

/-- A predicted line passes in FLYWHEEL (07 R144). -/
def passFlywheelLine (s : State) : State :=
  match s.rlc.lock, s.rlc.prediction with
  | .flywheel, some p => s.withRlc (s.rlc.flywheelLine p)
  | _, _ => s

/-- FLYWHEEL_PREDICTED_LINE (07 R144). -/
def execFlywheelPredictedLine (s : State) : Host.Outcome State Fault Refusal := .next (passFlywheelLine s)

/-- HOLDOVER_EXPIRY: the share of the boundary that ends the holdover, taken (07 R145, R153; log 11). -/
def execHoldoverExpiry (s : State) : Host.Outcome State Fault Refusal := .next (settleShare s)

/-! ## Field syncs -/

/-- A pair of field syncs that identifies the standard std (07 R139). -/
def judgePair (std : Standard) (pat : Pattern) (t : Time) (s : State) : State :=
  let s' := s.withRlc { s.rlc with standard := some std, pair := some 0 }
  if s'.rlc.setting.allows std then enterFrameLock s' pat t
  else addFaults s' { SyncFaults.none with mismatch := true }

/-- A field sync in LINE LOCK (07 R139). -/
def pairSync (pat : Pattern) (t : Time) (s : State) : State :=
  let c := s.rlc.lineOfEvent t
  match c.pair.bind pairStandard with
  | none => s.withRlc { c with pair := some 0 }
  | some std => judgePair std pat t (s.withRlc c)

/-- A field sync of FRAME LOCK taken on its line for the field f (07 R141, R142). -/
def checkField (std : Standard) (f : RefField) (pat : Pattern) (s : State) : State :=
  let z := takeFieldSync std s.rlc.fieldLength f
  let agree := decide (patternId pat = z.field.id)
  let n := parityAfter s.rlc.parityCount agree
  let s' := addFaults (s.withRlc { s.rlc with field := some z.field, fieldLength := z.length, parityCount := n })
    (z.faults.union (parityFault agree))
  if 2 ≤ n then dropToLineLock s' (some 0) else s'

/-- A field sync in FRAME LOCK (07 R141, R142). -/
def frameSync (pat : Pattern) (t : Time) (s : State) : State :=
  let s' := s.withRlc (s.rlc.lineOfEvent t)
  match s'.rlc.standard, s'.rlc.field with
  | some std, some f => checkField std f pat s'
  | _, _ => s'

/-- A field sync that confirms the reference in FLYWHEEL (07 R146). -/
def confirm (std : Standard) (pat : Pattern) (t : Time) (s : State) : State :=
  let s' := s.withRlc (s.rlc.retime t)
  if s'.rlc.setting.allows std then enterFrameLock s' pat t
  else
    let s'' := addFaults s' { SyncFaults.none with mismatch := true }
    changeLock (s''.withRlc s''.rlc.toLineLockPaired) .lineLock

/-- A field sync in FLYWHEEL: used while the controller waits for confirmation (07 R146). -/
def flywheelFieldSync (pat : Pattern) (t : Time) (s : State) : State :=
  match s.rlc.waiting, s.rlc.standard with
  | true, some std => confirm std pat t s
  | _, _ => s

/-- A field sync of an input at the moment t (07 R131, R139 to R146). -/
def fieldSync (input : Input) (pat : Pattern) (t : Time) (s : State) : State :=
  if input = s.rlc.source then
    match s.rlc.lock with
    | .search => s
    | .lineLock => pairSync pat t s
    | .frameLock => frameSync pat t s
    | .flywheel => flywheelFieldSync pat t s
  else s

/-- FIELD_SYNC (07 R139). -/
def execFieldSync (input : Input) (pat : Pattern) (t : Time) (s : State) : Host.Outcome State Fault Refusal :=
  .next (fieldSync input pat t s)

end Sys2Proof.Machine
end

