-- ==== Sys2Proof/Machine/SceneCommands.lean ====
section
/-! DEFINITION. The requests of the Scene Store (chapter 05). -/

namespace Sys2Proof.Machine

/-- The scene operand (05 R107, R109, R111). -/
def sceneOk (ops : List Byte) : Bool := decide (op8 ops 0 ≤ 3)
def sceneOf (ops : List Byte) : SceneNo := Fin.ofNat 4 (op8 ops 0)

/-- The scene that a SAVE SCENE makes of the table (05 R107). -/
def sceneNow (s : State) : Scene :=
  { valid := true, savedField := s.clock.counter, images := savedImages s.table.slots s.table.pinned }

/-- SAVE SCENE (05 R107). -/
def saveScene (ops : List Byte) (s : State) : State :=
  withOperands (sceneOk ops)
    (fun s =>
      reply (s.withScenes (s.scenes.set (sceneOf ops).val (sceneNow s) (sceneOf ops).isLt)) replyData
        (byteOf (op8 ops 0) :: byteOf (sceneNow s).images.length :: le32 s.clock.counter)) s

/-- SAVE_SCENE (05 R107). -/
def execSaveScene (s : State) : Host.Outcome State Fault Refusal := .next (withRequest reqSaveScene saveScene s)

/-- RECALL SCENE: range, validity, room (05 R111, 02 R33). -/
def recallScene (ops : List Byte) (s : State) : State :=
  withOperands (sceneOk ops)
    (fun s =>
      if (s.scenes.get (sceneOf ops)).valid then postRequest (.recall (sceneOf ops)) s
      else reply s replySceneEmpty []) s

/-- RECALL_SCENE (05 R111). -/
def execRecallScene (s : State) : Host.Outcome State Fault Refusal := .next (withRequest reqRecallScene recallScene s)

/-- CLEAR SCENE (05 R109). -/
def clearScene (ops : List Byte) (s : State) : State :=
  withOperands (sceneOk ops)
    (fun s => replyOkTo (s.withScenes (s.scenes.set (sceneOf ops).val Scene.empty (sceneOf ops).isLt))) s

/-- CLEAR_SCENE (05 R109). -/
def execClearScene (s : State) : Host.Outcome State Fault Refusal := .next (withRequest reqClearScene clearScene s)

/-- READ SCENES (05 R110). -/
def readScenes (s : State) : State := reply s replyData (s.scenes.toList.flatMap sceneBytes)

/-- READ_SCENES (05 R110). -/
def execReadScenes (s : State) : Host.Outcome State Fault Refusal :=
  .next (withRequest reqReadScenes (fun _ => readScenes) s)

end Sys2Proof.Machine
end

