-- ==== Sys2Proof/Machine/Dispatch.lean ====
section
/-! DEFINITION. The dispatch: one arm per command of Instr. -/

namespace Sys2Proof.Machine

/-- The effect of a command on everything but the queue of waiting commands. -/
def exec (i : Instr) (s : State) : Host.Outcome State Fault Refusal :=
  match i with
  | .powerOnReset => Sys2Proof.Machine.execPowerOnReset s
  | .requestByteWrite b => Sys2Proof.Machine.execRequestByteWrite b s
  | .replyByteRead => Sys2Proof.Machine.execReplyByteRead s
  | .abort ctl => Sys2Proof.Machine.execAbort ctl s
  | .softReset ctl => Sys2Proof.Machine.execSoftReset ctl s
  | .attentionClear loc bits => Sys2Proof.Machine.execAttentionClear loc bits s
  | .unknownRequest => Sys2Proof.Machine.execUnknownRequest s
  | .unframeableRequest => Sys2Proof.Machine.execUnframeableRequest s
  | .selectSource => Sys2Proof.Machine.execSelectSource s
  | .setProfile => Sys2Proof.Machine.execSetProfile s
  | .setInput => Sys2Proof.Machine.execSetInput s
  | .setStandard => Sys2Proof.Machine.execSetStandard s
  | .setRaster t => Sys2Proof.Machine.execSetRaster t s
  | .alignNow t => Sys2Proof.Machine.execAlignNow t s
  | .readTiming => Sys2Proof.Machine.execReadTiming s
  | .setFieldCount => Sys2Proof.Machine.execSetFieldCount s
  | .setMark => Sys2Proof.Machine.execSetMark s
  | .setInterval => Sys2Proof.Machine.execSetInterval s
  | .setCounter => Sys2Proof.Machine.execSetCounter s
  | .readCounters => Sys2Proof.Machine.execReadCounters s
  | .place => Sys2Proof.Machine.execPlace s
  | .amend => Sys2Proof.Machine.execAmend s
  | .showPlate => Sys2Proof.Machine.execShow s
  | .close => Sys2Proof.Machine.execClose s
  | .drop => Sys2Proof.Machine.execDrop s
  | .groupClose => Sys2Proof.Machine.execGroupClose s
  | .groupMove => Sys2Proof.Machine.execGroupMove s
  | .setPinned => Sys2Proof.Machine.execSetPinned s
  | .query => Sys2Proof.Machine.execQuery s
  | .probe => Sys2Proof.Machine.execProbe s
  | .list => Sys2Proof.Machine.execList s
  | .listSlotExamine => Sys2Proof.Machine.execListSlotExamine s
  | .listResume => Sys2Proof.Machine.execListResume s
  | .listEnd => Sys2Proof.Machine.execListEnd s
  | .setLevels => Sys2Proof.Machine.execSetLevels s
  | .setKeying => Sys2Proof.Machine.execSetKeying s
  | .writeCues => Sys2Proof.Machine.execWriteCues s
  | .readCues => Sys2Proof.Machine.execReadCues s
  | .setSequencer => Sys2Proof.Machine.execSetSequencer s
  | .start => Sys2Proof.Machine.execStart s
  | .halt => Sys2Proof.Machine.execHalt s
  | .step => Sys2Proof.Machine.execStep s
  | .doCue => Sys2Proof.Machine.execDoCue s
  | .saveScene => Sys2Proof.Machine.execSaveScene s
  | .recallScene => Sys2Proof.Machine.execRecallScene s
  | .clearScene => Sys2Proof.Machine.execClearScene s
  | .readScenes => Sys2Proof.Machine.execReadScenes s
  | .sync => Sys2Proof.Machine.execSync s
  | .fieldReport => Sys2Proof.Machine.execFieldReport s
  | .setEnables => Sys2Proof.Machine.execSetEnables s
  | .readAttention => Sys2Proof.Machine.execReadAttention s
  | .cueInEdge => Sys2Proof.Machine.execCueInEdge s
  | .cueExecution => Sys2Proof.Machine.execCueExecution s
  | .stallResumption => Sys2Proof.Machine.execStallResumption s
  | .delayExpiry => Sys2Proof.Machine.execDelayExpiry s
  | .fieldBoundary => Sys2Proof.Machine.execFieldBoundary s
  | .intervalExpiry => Sys2Proof.Machine.execIntervalExpiry s
  | .countDone => Sys2Proof.Machine.execCountDone s
  | .haltOnCount => Sys2Proof.Machine.execHaltOnCount s
  | .holdoverExpiry => Sys2Proof.Machine.execHoldoverExpiry s
  | .slewTimeout => Sys2Proof.Machine.execSlewTimeout s
  | .lineStart => Sys2Proof.Machine.execLineStart s
  | .segmentEnd => Sys2Proof.Machine.execSegmentEnd s
  | .holdDecaySegment => Sys2Proof.Machine.execHoldDecaySegment s
  | .lineSync input t => Sys2Proof.Machine.execLineSync input t s
  | .lineWindowClose => Sys2Proof.Machine.execLineWindowClose s
  | .fieldSync input pattern t => Sys2Proof.Machine.execFieldSync input pattern t s
  | .flywheelPredictedLine => Sys2Proof.Machine.execFlywheelPredictedLine s

end Sys2Proof.Machine
end

