-- ==== Sys2Proof/Safety.lean ====
section
/-! DEFINITION. The vocabulary of the statements: requests at the head of the FIFO, replies, and the invariants of the part. -/

namespace Sys2Proof.Machine

/-! ## Requests and replies -/

/-- The row of the request code table that a command executes, none for a command that is no request. -/
def requestOf : Instr → Option ReqInfo
  | .selectSource => some reqSelectSource
  | .setProfile => some reqSetProfile
  | .setInput => some reqSetInput
  | .setStandard => some reqSetStandard
  | .setRaster _ => some reqSetRaster
  | .alignNow _ => some reqAlignNow
  | .readTiming => some reqReadTiming
  | .setFieldCount => some reqSetFieldCount
  | .setMark => some reqSetMark
  | .setInterval => some reqSetInterval
  | .setCounter => some reqSetCounter
  | .readCounters => some reqReadCounters
  | .place => some reqPlace
  | .amend => some reqAmend
  | .showPlate => some reqShow
  | .close => some reqClose
  | .drop => some reqDrop
  | .groupClose => some reqGroupClose
  | .groupMove => some reqGroupMove
  | .setPinned => some reqSetPinned
  | .query => some reqQuery
  | .probe => some reqProbe
  | .list => some reqList
  | .setLevels => some reqSetLevels
  | .setKeying => some reqSetKeying
  | .writeCues => some reqWriteCues
  | .readCues => some reqReadCues
  | .setSequencer => some reqSetSequencer
  | .start => some reqStart
  | .halt => some reqHalt
  | .step => some reqStep
  | .doCue => some reqDoCue
  | .saveScene => some reqSaveScene
  | .recallScene => some reqRecallScene
  | .clearScene => some reqClearScene
  | .readScenes => some reqReadScenes
  | .sync => some reqSync
  | .setEnables => some reqSetEnables
  | .readAttention => some reqReadAttention
  | _ => none

/-- The operands of a request pass check 3 of 09 R178; the requests not named here have no operand that can fail it. -/
def operandsOk (s : State) (ops : List Byte) : Instr → Bool
  | .selectSource => decide (op8 ops 0 ≤ 1)
  | .setProfile => profileOk ops
  | .setInput => decide (op8 ops 0 ≤ 1) && decide (op8 ops 1 ≤ 1)
  | .setStandard => decide (op8 ops 0 ≤ 2)
  | .setRaster _ => rasterOk ops
  | .setMark => decide (op8 ops 0 ≤ 1) && decide (op8 ops 5 ≤ 1)
  | .setInterval => decide (op16 ops 0 ≤ 4095)
  | .setCounter => decide (op8 ops 2 < 32) && decide (op8 ops 3 ≤ 1)
  | .place => placeOk ops
  | .amend => amendOk ops
  | .showPlate => tagOk (opByte ops 0)
  | .close => tagOk (opByte ops 0)
  | .drop => tagOk (opByte ops 0)
  | .groupClose => decide (op8 ops 0 ≤ 7)
  | .groupMove => decide (op8 ops 0 ≤ 7)
  | .setPinned => decide (op8 ops 0 ≤ 32)
  | .query => tagOk (opByte ops 0)
  | .probe => decide (op16 ops 0 < pictureRows s.raster.std) && decide (op16 ops 2 < s.raster.width)
  | .list => decide (op8 ops 0 < 8)
  | .setLevels => ops.all fun b => decide (b.toNat ≤ 4)
  | .setKeying => decide (op8 ops 0 ≤ 2)
  | .writeCues => writeCuesOk ops
  | .readCues => readCuesOk ops
  | .setSequencer => setSequencerOk ops
  | .start => ops.isEmpty || decide (op8 ops 0 ≤ 127)
  | .doCue => cueOk ops 0
  | .saveScene => decide (op8 ops 0 ≤ 3)
  | .recallScene => decide (op8 ops 0 ≤ 3)
  | .clearScene => decide (op8 ops 0 ≤ 3)
  | _ => true

/-- A request of code c with operand bytes ops stands complete at the head of the request FIFO, the bytes rest behind it; no LIST
or SYNC is in progress; the reply FIFO has n bytes free (09 R174, R177). -/
def RequestReady (s : State) (c : Byte) (n : Nat) (ops rest : List Byte) : Prop :=
  s.port.requests = c :: byteOf ops.length :: (ops ++ rest) ∧ s.port.job = .idle ∧ s.port.replies.length + n ≤ 64

/-- The state after a request whose bytes have left the FIFO and whose reply has been written, every other part of the state as it
was. -/
def answered (s : State) (rest : List Byte) (code : Byte) (body : List Byte) : State :=
  { s with port := { s.port with requests := rest, replies := s.port.replies ++ (code :: byteOf body.length :: body) } }

/-- The state after a posting request: QUEUED with the depth, and one amendment of origin REQUEST at the end of the queue. -/
def queued (s : State) (rest : List Byte) (op : AmendOp) : State :=
  { answered s rest 0x01#8 [byteOf (s.table.queue.length + 1)] with
    table := { s.table with queue := s.table.queue ++ [{ origin := .request, op := op }] } }

/-! ## Operand bytes -/

/-- The 28 operand bytes of a PLACE for a slot operand and host fields (09 R187, PLACE operand). -/
def placeBytes (slot : Option Slot) (h : HostFields) : List Byte :=
  [byteOf ((slot.map fun i => i.val).getD 255), h.tag, byteOf (h.group + 16 * h.layer),
   byteOf (keyModeCode h.keyMode + 2 * startCode h.start + bitVal (startPresent h.start) 3 + bitVal h.holdInSlew 4 +
     bitVal h.closeAtStop 5),
   byteOf (h.transIndex.getD 16), byteOf h.mixTarget, byteOf h.fadeStep] ++
  startBytes h.start ++ le16 h.lifetime ++ [byteOfInt h.rowRate, byteOfInt h.colRate] ++ le16i h.top ++ le16i h.left ++
  le16 h.height ++ le16 h.width ++ stopBytes h.stopRow ++ stopBytes h.stopCol ++ [byteOf (notifyCode h.notify)]

/-- The 24-bit field-select set that names exactly the fields present in f (09 R187, AMEND operand). -/
def selectBits (f : FieldSelect) : Nat :=
  bitVal f.group.isSome 0 + bitVal f.layer.isSome 1 + bitVal f.top.isSome 2 + bitVal f.left.isSome 3 +
    bitVal f.height.isSome 4 + bitVal f.width.isSome 5 + bitVal f.keyMode.isSome 6 + bitVal f.transIndex.isSome 7 +
    bitVal f.mixTarget.isSome 8 + bitVal f.fadeStep.isSome 9 + bitVal f.lifetime.isSome 10 + bitVal f.rowRate.isSome 11 +
    bitVal f.colRate.isSome 12 + bitVal f.stopRow.isSome 13 + bitVal f.stopCol.isSome 14 + bitVal f.notify.isSome 15 +
    bitVal f.holdInSlew.isSome 16 + bitVal f.closeAtStop.isSome 17

/-- The 29 operand bytes of an AMEND; the value positions of fields not selected hold 0 (09 R187, AMEND operand). -/
def amendBytes (tag : Byte) (f : FieldSelect) : List Byte :=
  [tag] ++ le16 (selectBits f % 65536) ++ [byteOf (selectBits f / 65536), byteOf (f.group.getD 0), byteOf (f.layer.getD 0)] ++
  le16i (f.top.getD 0) ++ le16i (f.left.getD 0) ++ le16 (f.height.getD 0) ++ le16 (f.width.getD 0) ++
  [byteOf (keyModeCode (f.keyMode.getD .box)), byteOf ((f.transIndex.getD (some 0)).getD 16), byteOf (f.fadeStep.getD 0)] ++
  le16 (f.lifetime.getD 0) ++ [byteOfInt (f.rowRate.getD 0), byteOfInt (f.colRate.getD 0)] ++
  stopBytes (f.stopRow.getD (some 0)) ++ stopBytes (f.stopCol.getD (some 0)) ++
  [byteOf (notifyCode (f.notify.getD { shown := false, closed := false, stopped := false })),
   byteOf (bitVal (f.holdInSlew.getD false) 0), byteOf (bitVal (f.closeAtStop.getD false) 0), byteOf (f.mixTarget.getD 0)]

/-! ## The formats of replies (09 R187) -/

/-- The codes for named values that replies carry. -/
def plateStateCodes : List (PlateState × Nat) := [(.armed, 0), (.shown, 1), (.closing, 2)]
def lockCodes : List (LockState × Byte) := [(.search, 0x00#8), (.lineLock, 0x01#8), (.frameLock, 0x02#8), (.flywheel, 0x03#8)]
def slewCodes : List (SlewName × Byte) := [(.hold, 0x00#8), (.track, 0x01#8), (.slew, 0x02#8)]
def inputCodes : List (Input × Byte) := [(.a, 0x00#8), (.b, 0x01#8)]
def standardCodes : List (Option Standard × Byte) := [(none, 0x00#8), (some .s625, 0x01#8), (some .s525, 0x02#8)]
def seqModeCodes : List (SeqMode × Byte) := [(.once, 0x00#8), (.loop, 0x01#8)]
def seqStateCodes : List (SeqState × Byte) :=
  [(.halted, 0x00#8), (.waiting, 0x01#8), (.running, 0x02#8), (.stalled, 0x03#8), (.delaying, 0x04#8)]
def seqFaultCodes : List (SeqFaultReason × Byte) := [(.runaway, 0x00#8), (.stall, 0x01#8), (.missedTrigger, 0x02#8)]
def alignCodes : List (AlignCause × Byte) :=
  [(.standardChange, 0x00#8), (.quickAlign, 0x01#8), (.slewTimeout, 0x02#8), (.alignRequest, 0x03#8), (.lineLength, 0x04#8)]
def amendKindCodes : List (AmendKind × Byte) :=
  [(.place, 0x00#8), (.amend, 0x01#8), (.showPlate, 0x02#8), (.close, 0x03#8), (.drop, 0x04#8), (.mix, 0x05#8),
   (.groupClose, 0x06#8), (.groupMove, 0x07#8), (.setPinned, 0x08#8), (.recall, 0x09#8)]
def faultReasonCodes : List (FaultReason × Byte) :=
  [(.tagInUse, 0x01#8), (.slotInUse, 0x02#8), (.tableFull, 0x03#8), (.overlap, 0x04#8), (.range, 0x05#8), (.noSuchTag, 0x06#8),
   (.closing, 0x07#8), (.notArmed, 0x08#8), (.sceneEmpty, 0x09#8), (.sceneTooLarge, 0x0A#8), (.sceneConflict, 0x0B#8)]

/-- The byte holds exactly these bits, bit 0 first, and zeros above them. -/
def HoldsBits (b : Byte) (bits : List Bool) : Prop := ∀ k, b.getLsbD k = bits.getD k false

/-- The number, and the signed number, that n bytes from position i on hold, least significant byte first. -/
def numAt (bs : List Byte) (i : Nat) : Nat → Nat
  | 0 => 0
  | n + 1 => (bs.getD i 0).toNat + 256 * numAt bs (i + 1) n

def signed16At (bs : List Byte) (i : Nat) : Int := (bs.getD (i + 1) 0 ++ bs.getD i 0 : BitVec 16).toInt

/-- The bytes at position i hold the stop, or the absence marker 8000H. -/
def StopAt (bs : List Byte) (i : Nat) (stop : Option Int) : Prop :=
  (stop = none → numAt bs i 2 = 0x8000) ∧ ∀ x, stop = some x → signed16At bs i = x

/-- The bytes are the plate record of slot i and plate p read in the field f (Plate record, 30 bytes). -/
def RecordOf (i : Slot) (f : FieldNo) (p : Plate) (bs : List Byte) : Prop :=
  bs.length = 30 ∧
    (∀ st, (p.state, st) ∈ plateStateCodes → numAt bs 0 1 = i.val + 32 * st + 128 * p.held.toNat) ∧
    numAt bs 1 4 = f.toNat ∧ bs.getD 5 0 = p.tag ∧
    numAt bs 6 1 = p.group + 8 * p.layer + 32 * (if p.keyMode = .index then 1 else 0) + 64 * p.holdInSlew.toNat +
      128 * p.closeAtStop.toNat ∧
    (p.start = .now → numAt bs 7 1 = p.mixTarget ∧ numAt bs 11 4 = 0) ∧
    (∀ g, p.start = .atField g → numAt bs 7 1 = p.mixTarget + 32 + 128 ∧ numAt bs 11 4 = g.toNat) ∧
    (p.start = .onCue → numAt bs 7 1 = p.mixTarget + 64 ∧ numAt bs 11 4 = 0) ∧
    numAt bs 8 1 = p.mix + 32 * p.notify.shown.toNat + 64 * p.notify.closed.toNat + 128 * p.notify.stopped.toNat ∧
    (p.transIndex = none → numAt bs 9 1 = 16) ∧ (∀ x, p.transIndex = some x → numAt bs 9 1 = x) ∧
    numAt bs 10 1 = p.fadeStep + 16 * p.fadePhase ∧ numAt bs 15 2 = p.lifetime ∧
    (bs.getD 17 0).toInt = p.rowRate ∧ (bs.getD 18 0).toInt = p.colRate ∧ signed16At bs 19 = p.top ∧
    signed16At bs 21 = p.left ∧ numAt bs 23 1 = p.height % 256 ∧ numAt bs 24 1 = p.width % 256 ∧
    numAt bs 25 1 = p.height / 256 + 16 * (p.width / 256) ∧ StopAt bs 26 p.stopRow ∧ StopAt bs 28 p.stopCol

/-- The 4 bytes of a cue entry (Cue entry). -/
def cueActionCodes : List (CueAction × Nat) :=
  [(.nothing, 0), (.showPlate, 1), (.close, 2), (.drop, 3), (.mix, 4), (.groupClose, 5), (.groupMove, 6), (.recall, 7), (.delay, 8)]

def CueBytesOf (e : CueEntry) (bs : List Byte) : Prop :=
  (∀ a, (e.action, a) ∈ cueActionCodes → numAt bs 0 1 =
    a + 16 * e.flags.wait.toNat + 32 * e.flags.halt.toNat + 64 * e.flags.end_.toNat + 128 * e.flags.notify.toNat) ∧
    bs.getD 1 0 = e.operand ∧ numAt bs 2 2 = e.parameter.toNat

/-- The bytes are the body of a READ TIMING: the timing image and the sync-fault set (17 bytes), each number as it stands when its
bytes can hold it. -/
def TimingBodyOf (g : TimingImage) (k : SyncFaults) (bs : List Byte) : Prop :=
  bs.length = 17 ∧ (g.lock, bs.getD 0 0) ∈ lockCodes ∧ (g.slew, bs.getD 1 0) ∈ slewCodes ∧
    (g.source, bs.getD 2 0) ∈ inputCodes ∧ (g.standard, bs.getD 3 0) ∈ standardCodes ∧
    (0 ≤ g.period → g.period ≤ 65535 → (numAt bs 4 2 : Int) = g.period) ∧
    (g.fieldLength ≤ 65535 → numAt bs 6 2 = g.fieldLength) ∧
    (-32768 ≤ g.phaseLines → g.phaseLines ≤ 32767 → signed16At bs 8 = g.phaseLines) ∧
    (-32768 ≤ g.phaseSixteenths → g.phaseSixteenths ≤ 32767 → signed16At bs 10 = g.phaseSixteenths) ∧
    (-32768 ≤ g.offset → g.offset ≤ 32767 → signed16At bs 12 = g.offset) ∧
    (g.fields ≤ 65535 → numAt bs 14 2 = g.fields) ∧
    HoldsBits (bs.getD 16 0) [k.mismatch, k.longField, k.shortField, k.parity, k.holdover]

/-- The bytes of a scene in READ SCENES: valid, image count, saved field (6 bytes). -/
def SceneBytesOf (c : Scene) (bs : List Byte) : Prop :=
  bs.length = 6 ∧ numAt bs 0 1 = c.valid.toNat ∧ (c.images.length ≤ 32 → numAt bs 1 1 = c.images.length) ∧
    numAt bs 2 4 = c.savedField.toNat

/-- The bytes of the status block of READ CUES (8 bytes); the delay remaining is 0 outside DELAYING (04 R83). -/
def StatusBlockOf (q : Sequencer) (bs : List Byte) : Prop :=
  bs.length = 8 ∧ (q.state, bs.getD 0 0) ∈ seqStateCodes ∧ numAt bs 1 1 = q.pointer.val ∧ numAt bs 2 1 = q.loopStart.val ∧
    (q.mode, bs.getD 3 0) ∈ seqModeCodes ∧ HoldsBits (bs.getD 4 0) [q.sources.cueIn, q.sources.interval, q.sources.markA] ∧
    (q.runCount ≤ 16 → numAt bs 5 1 = q.runCount) ∧ (q.state ≠ .delaying → numAt bs 6 2 = 0) ∧
    (q.state = .delaying → q.delay ≤ 65535 → numAt bs 6 2 = q.delay)

/-- The bytes of the latch that holds the occurrence (Attention bit positions and READ ATTENTION). -/
def LatchOf (bs : List Byte) : Detail → Prop
  | .lockChange old new => ∃ a b, bs = [a, b] ∧ (old, a) ∈ lockCodes ∧ (new, b) ∈ lockCodes
  | .syncFault k => ∃ a, bs = [a] ∧ HoldsBits a [k.mismatch, k.longField, k.shortField, k.parity, k.holdover]
  | .rasterReset c => ∃ a, bs = [a] ∧ (c, a) ∈ alignCodes
  | .markA f => bs.length = 4 ∧ numAt bs 0 4 = f.toNat
  | .markB f => bs.length = 4 ∧ numAt bs 0 4 = f.toNat
  | .countDone => bs = []
  | .cueNotify i => bs = [i]
  | .sequencerFault r i => ∃ a b, bs = [a, b] ∧ (r, a) ∈ seqFaultCodes ∧ b.toNat = i.val
  | .plateShown t => bs = [t]
  | .plateClosed t => bs = [t]
  | .plateStopped t => bs = [t]
  | .motionHeld t b => bs = [t, b]
  | .applyFault k o r g =>
    ∃ a b, (k, a) ∈ amendKindCodes ∧ (r, b) ∈ faultReasonCodes ∧
      ((g = .request ∧ bs = [a, o, b, 0x00#8, 0xFF#8]) ∨ ∃ i c, g = .cue i ∧ c.toNat = i.val ∧ bs = [a, o, b, 0x01#8, c])
  | .eviction t n => bs = [t, n]
  | .spanOverflow r f => bs.length = 6 ∧ (r ≤ 65535 → numAt bs 0 2 = r) ∧ numAt bs 2 4 = f.toNat
  | .portOverrun => bs = []

/-- The number of latch bytes of each cause, in cause order; 33 in all. -/
def latchSizes : List Nat := [2, 1, 1, 4, 4, 0, 1, 2, 1, 1, 1, 2, 5, 2, 6, 0]

/-- The bytes of a cause's latch: the occurrence it holds, or zeros. -/
def LatchReads (c : Cause) (v : CauseState) (bs : List Byte) : Prop :=
  (v.latch = none → bs = List.replicate (latchSizes.getD c.number 0) 0x00#8) ∧ ∀ d, v.latch = some d → LatchOf bs d

/-- The bytes are the body of a READ ATTENTION: the pending, MORE and enable sets, cause n as bit n, and the 16 latches in cause order
(10 R193). -/
def AttentionBodyOf (a : Attention) (bs : List Byte) : Prop :=
  ∃ (pen more en : BitVec 16) (l : Cause → List Byte),
    bs = [pen.extractLsb' 0 8, pen.extractLsb' 8 8, more.extractLsb' 0 8, more.extractLsb' 8 8, en.extractLsb' 0 8,
          en.extractLsb' 8 8] ++
      (l .lockChange ++ l .syncFault ++ l .rasterReset ++ l .markA ++ l .markB ++ l .countDone ++ l .cueNotify ++
        l .sequencerFault) ++
      (l .plateShown ++ l .plateClosed ++ l .plateStopped ++ l .motionHeld ++ l .applyFault ++ l .eviction ++
        l .spanOverflow ++ l .portOverrun) ∧
    ∀ c : Cause, pen.getLsbD c.number = (a.get c).pending ∧ more.getLsbD c.number = (a.get c).more ∧
      en.getLsbD c.number = (a.get c).enable ∧ LatchReads c (a.get c) (l c)

/-- The amendment names the tag (01 R24). -/
def Names (op : AmendOp) (t : Byte) : Prop :=
  (∃ i h, op = .place i h ∧ h.tag = t) ∨ (∃ f, op = .amend t f) ∨ op = .showPlate t ∨ op = .close t ∨ op = .drop t ∨
    ∃ n, op = .mix t n

/-! ## AMEND field by field -/

/-- The new value is the selected one, or the old where the field is not selected. -/
def Takes {α : Type} (v : Option α) (old new : α) : Prop := (v = none → new = old) ∧ ∀ x, v = some x → new = x

/-- The host fields h after an AMEND that selects f (02 R35, R42): the selected fields at their new values, every other as in g; the
tag and the start mode are never selected. -/
def AmendedTo (f : FieldSelect) (g h : HostFields) : Prop :=
  h.tag = g.tag ∧ h.start = g.start ∧ Takes f.group g.group h.group ∧ Takes f.layer g.layer h.layer ∧ Takes f.top g.top h.top ∧
    Takes f.left g.left h.left ∧ Takes f.height g.height h.height ∧ Takes f.width g.width h.width ∧
    Takes f.keyMode g.keyMode h.keyMode ∧ Takes f.transIndex g.transIndex h.transIndex ∧
    Takes f.mixTarget g.mixTarget h.mixTarget ∧ Takes f.fadeStep g.fadeStep h.fadeStep ∧
    Takes f.lifetime g.lifetime h.lifetime ∧ Takes f.rowRate g.rowRate h.rowRate ∧ Takes f.colRate g.colRate h.colRate ∧
    Takes f.stopRow g.stopRow h.stopRow ∧ Takes f.stopCol g.stopCol h.stopCol ∧ Takes f.notify g.notify h.notify ∧
    Takes f.holdInSlew g.holdInSlew h.holdInSlew ∧ Takes f.closeAtStop g.closeAtStop h.closeAtStop

/-! ## The table while a boundary is taken -/

/-- A live plate carries the tag. -/
def TagLive (ts : Slots) (tag : Byte) : Prop := ∃ i p, slotAt ts i = some p ∧ p.tag = tag

/-- A live plate outside the slots of skip shares a position with the record on its layer. -/
def MeetsLive (ts : Slots) (skip : Slot → Prop) (h : HostFields) : Prop :=
  ∃ i p, ¬ skip i ∧ slotAt ts i = some p ∧ p.toHostFields.meets h = true

/-- The work after an amendment that faulted (02 R39): nothing changes but the notice and the count. -/
def faultedBy (w : TableWork) (a : Amendment) (r : FaultReason) : TableWork :=
  { w with notices := w.notices ++ [.applyFault a.op.kind a.op.operand r a.origin], faulted := w.faulted + 1 }

/-- The work after an amendment that was carried out with this table and these occurrences. -/
def carried (w : TableWork) (ts : Slots) (ds : List Detail) : TableWork :=
  { w with slots := ts, notices := w.notices ++ ds, applied := w.applied + 1 }

/-- The work after an amendment that freed slot i as a closing of plate p (02 R51). -/
def carriedClosing (w : TableWork) (i : Slot) (p : Plate) : TableWork :=
  { carried w (putSlot w.slots i none) (if p.notify.closed then [.plateClosed p.tag] else []) with closings := w.closings + 1 }

/-! ## Entries -/

/-- The raster after a change of lock state that ends outside FRAME LOCK (08 R160). -/
def inHold (r : Raster) : Raster := { r with slew := .hold, segLines := 0, segDue := false, timer := 0, timeoutDue := false }

/-- The controller after an entry to SEARCH (07 R147, R151). -/
def inSearch (c : RefLock) : RefLock :=
  { c with lock := .search, fields := 0, goodCount := 0, missCount := 0, parityCount := 0, holdover := 0, waiting := false,
           standard := none, prediction := none, nominalNext := none, entered := false, windowSync := none, field := none, pair := none,
           lastSync := none }

/-- The setting forbids the standard (07 R132). -/
def Forbids (z : StandardSetting) (std : Standard) : Prop := (z = .only625 ∧ std = .s525) ∨ (z = .only525 ∧ std = .s625)

/-- A set with STANDARD MISMATCH in it, and the occurrence that the addition raises (07 R152). -/
def withMismatch (f : SyncFaults) : SyncFaults := { f with mismatch := true }

def mismatchRaised (f : SyncFaults) (a : Attention) : Attention :=
  if f.mismatch then a
  else a.occur (.syncFault { mismatch := true, longField := false, shortField := false, parity := false, holdover := false })

/-- The start mode shows the plate in the field f: NOW, or a start field at or before f by the signed difference (02 R41;
06 R118). -/
def StartsAt (m : StartMode) (f : FieldNo) : Prop := m = .now ∨ ∃ g, m = .atField g ∧ (f - g).toNat < 2147483648

/-- PLATE SHOWN, and PLATE CLOSED, for a plate whose notify set holds it (01 R8). -/
def shownRaised (h : HostFields) : List Detail := if h.notify.shown then [.plateShown h.tag] else []
def closedRaised (h : HostFields) : List Detail := if h.notify.closed then [.plateClosed h.tag] else []

/-- The plate made SHOWN: current mix 0, or the mix target when the fade step is 0; fade phase 0 (02 R41, R44, R53). -/
def nowShown (p : Plate) : Plate :=
  { p with state := .shown, mix := if p.fadeStep = 0 then p.mixTarget else 0, fadePhase := 0 }

/-- The plate turned CLOSING with fade phase 0 and its current mix kept (02 R45, R54). -/
def nowClosing (p : Plate) : Plate := { p with state := .closing, fadePhase := 0 }

/-- The rectangle of the record covers the position (01 R12). -/
def Covers (h : HostFields) (r c : Int) : Prop :=
  h.top ≤ r ∧ r ≤ h.top + h.height - 1 ∧ h.left ≤ c ∧ c ≤ h.left + h.width - 1

/-! ## Motion, spans, timing -/

/-- The stop lies strictly beyond the coordinate in the direction of the rate and no farther than one move (02 R57 item 2). -/
def Beyond (x rate stop : Int) : Prop := (0 < rate ∧ x < stop ∧ stop ≤ x + rate) ∨ (rate < 0 ∧ stop < x ∧ x + rate ≤ stop)

/-- The candidate of one axis (02 R57): the coordinate y, the new rate, and whether the axis reaches its stop. -/
def AxisGoes (x rate : Int) (stop : Option Int) (y rate' : Int) (stopped : Bool) : Prop :=
  (rate = 0 → y = x ∧ rate' = 0 ∧ stopped = false) ∧
    (∀ z, rate ≠ 0 → stop = some z → Beyond x rate z → y = z ∧ rate' = 0 ∧ stopped = true) ∧
    (rate ≠ 0 → (∀ z, stop = some z → ¬ Beyond x rate z) →
      stopped = false ∧ (x + rate < -1024 → y = -1024 ∧ rate' = 0) ∧ (2047 < x + rate → y = 2047 ∧ rate' = 0) ∧
        (-1024 ≤ x + rate → x + rate ≤ 2047 → y = x + rate ∧ rate' = rate))

/-- The entry of the visible set is a candidate for row r, and sp is its span (03 R69). -/
def CandidateFor (width r : Nat) (v : VisPlate) (sp : Span) : Prop :=
  v.top ≤ r ∧ (r : Int) ≤ v.top + v.height - 1 ∧ v.left ≤ (width : Int) - 1 ∧ 0 ≤ v.left + v.width - 1 ∧
    sp = { slot := v.slot, layer := v.layer, leftCol := max v.left 0,
           rightCol := min (v.left + v.width - 1) ((width : Int) - 1), keyMode := v.keyMode, transIndex := v.transIndex,
           mix := v.mix }

/-- a is kept in preference to b: a higher layer, or the same layer and a lower slot (03 R71). -/
def KeptOver (a b : Span) : Prop := b.layer < a.layer ∨ (b.layer = a.layer ∧ a.slot < b.slot)

/-- A ramp step from o to o' of at most r toward the aim, stopping at it (08 R163). -/
def StepsToward (r : Nat) (aim o o' : Int) : Prop :=
  (o ≤ aim → (o + r ≤ aim → o' = o + r) ∧ (aim < o + r → o' = aim)) ∧
    (aim < o → (aim ≤ o - r → o' = o - r) ∧ (o - r < aim → o' = aim))

/-- The ramp-down distance of the offset, in units of 2^-16 sixteenth, is D (08 R164): the sum of the terms |o| - r, |o| - 2r, ...
above 0, times the segment length and the line length. -/
def RampDownDistance (q : RasterParams) (std : Standard) (o : Int) (d : Nat) : Prop :=
  d = ((List.range o.natAbs).map fun k => o.natAbs - (k + 1) * q.rampStep).sum * q.segmentLength * q.lineLength std

/-- The spacing lies within w sixteenths of the nominal period of the standard (07 R137). -/
def NearNominal (q : RasterParams) (w : Int) (std : Standard) (sp : Int) : Prop :=
  (q.lineLength std : Int) * 16 - w ≤ sp ∧ sp ≤ (q.lineLength std : Int) * 16 + w

/-! ## Field boundaries and hard aligns -/

/-- The last line of a field is in progress (08 R156, R158). -/
def LastFieldLine (r : Raster) : Prop :=
  r.startDue = false ∧
    ((r.std = .s625 ∧ (r.line = 312 ∨ r.line = 624)) ∨ (r.std = .s525 ∧ (r.line = 262 ∨ r.line = 524)))

/-- The entry of the visible set for the plate in slot i (03 R63). -/
def visibleAs (i : Slot) (p : Plate) : VisPlate :=
  { slot := i, tag := p.tag, layer := p.layer, top := p.top, left := p.left, height := p.height, width := p.width,
    keyMode := p.keyMode, transIndex := p.transIndex, mix := p.mix }

/-- What the Field Clock, the sequencer and the attention unit hold after a boundary from s to u that carries f and whose table work
is w (06 R118 to R129; 04 R98, R100; 02 R39): c is the clock once the FIELD event is counted, att the attention unit after the
boundary's occurrences: the marks, COUNT DONE, the notices of the table in their order. That INTERVAL events, MARK A events and
halts wait is the model's choice (log 8, log 9). -/
def ClockTakesBoundary (s u : State) (f : FieldNo) (w : TableWork) (att : Attention) : Prop :=
  ∀ (ic ends : Nat) (mA mB done : Bool) (base c : FieldClock),
    (s.clock.intervalLength = 0 → ic = s.clock.intervalCount ∧ ends = 0) →
    (s.clock.intervalLength ≠ 0 → s.clock.intervalCount + 1 < s.clock.intervalLength →
      ic = s.clock.intervalCount + 1 ∧ ends = 0) →
    (s.clock.intervalLength ≠ 0 → s.clock.intervalLength ≤ s.clock.intervalCount + 1 → ic = 0 ∧ ends = 1) →
    (mA = true ↔ s.clock.markA.enable = true ∧ s.clock.markA.value = f) →
    (mB = true ↔ s.clock.markB.enable = true ∧ s.clock.markB.value = f) →
    (done = true ↔ s.clock.select.field = true ∧ s.clock.preset ≠ 0 ∧ s.clock.count ≤ 1) →
    base = { s.clock with counter := f, intervalCount := ic } →
    (done = true → c = { base with count := s.clock.preset, handed := [] }.hand s.clock.handed) →
    (done = false → s.clock.select.field = true → s.clock.preset ≠ 0 → c = { base with count := s.clock.count - 1 }) →
    (s.clock.select.field = false ∨ s.clock.preset = 0 → c = base) →
      u.clock = c.hand (List.replicate w.closings .closing) ∧
      u.seq = { s.seq.boundary with
        intervalsDue := s.seq.intervalsDue + ends
        marksDue := s.seq.marksDue + (if mA then 1 else 0)
        haltsDue := s.seq.haltsDue + (if done && s.clock.haltOnCount then 1 else 0) } ∧
      att = (settleShare s).att.occurAll ((if mA then [.markA f] else []) ++ (if mB then [.markB f] else []) ++
        (if done then [.countDone] else []) ++ w.notices)

/-- The Keyer after a boundary that leaves the table ts: the set latched from its slots, and the pending levels (03 R61 to R63, R66).
hidden says that hold-in-slew plates are hidden. -/
def KeyerTakesBoundary (k k' : Keyer) (ts : Slots) (f : FieldNo) (hidden : Prop) : Prop :=
  k' = { k with live := k.pendingLevels, fieldNumber := f, visible := k'.visible } ∧
    k'.visible.Pairwise (fun v w => v.slot < w.slot) ∧
    ∀ v, v ∈ k'.visible ↔ ∃ i p, slotAt ts i = some p ∧ p.state ≠ .armed ∧ 0 < p.mix ∧ ¬ (p.holdInSlew = true ∧ hidden) ∧
      v = visibleAs i p

/-- The controller after its share of a boundary (07 R145, R150, R151, R153); a share that ends the holdover is left due (log 11). -/
def afterShare (c : RefLock) (slew : Slew) (offset : Int) : RefLock :=
  if c.lock = .flywheel ∧ c.inForce.holdover ≠ 0 ∧ c.inForce.holdover ≤ min (c.holdover + 1) 255 then { c with shareDue := true }
  else
    { c with
      holdover := if c.lock = .flywheel then min (c.holdover + 1) 255 else c.holdover
      fields := min (c.fields + 1) 65535, srcsel := c.source, shareDue := false
      image := { lock := c.lock, slew := slew.name, source := c.source, standard := c.standard, period := c.period
                 fieldLength := c.fieldLength, phaseLines := c.phaseLines, phaseSixteenths := c.phaseSixteenths
                 offset := offset, fields := min (c.fields + 1) 65535 } }

/-- A field boundary, natural or of a hard align, taken by every block but the Raster Generator (08 R158), from s to u; att is the
attention unit after the boundary's occurrences. A controller's share of an earlier boundary comes first (log 11); the order of the
blocks is the model's choice (log 36). -/
def BoundaryTaken (s u : State) (att : Attention) : Prop :=
  ∀ (t : State) (f : FieldNo) (w : TableWork), t = settleShare s → f = s.clock.counter + 1 →
    w = tableBoundary f s.scenes s.table →
      u.scenes = s.scenes ∧ u.pending = s.pending ∧ ClockTakesBoundary s u f w att ∧
      u.table = { slots := w.slots, pinned := w.pinned, rotation := w.rotation, queue := [] } ∧
      (u.port = { s.port with job := u.port.job } ∧
        (s.port.job = .sync none → u.port.job = .sync (some { field := f, applied := w.applied, faulted := w.faulted })) ∧
        (s.port.job ≠ .sync none → u.port.job = s.port.job)) ∧
      KeyerTakesBoundary s.keyer u.keyer w.slots f
        ((∃ r, t.raster.slew = .slew r) ∨ t.rlc.lock = .search ∨ t.rlc.lock = .lineLock) ∧
      u.rlc = afterShare t.rlc t.raster.slew t.raster.offset

/-- The new position of a hard align at the moment t (08 R166 item 1): frame line n, and rem sixteenths into it. In FRAME LOCK it is
carried on from the last good line's sync (07 R148; log 34), in FLYWHEEL from the predicted line (07 R144). -/
def NewPosition (c : RefLock) (t : Time) (n rem : Int) : Prop :=
  (c.lock = .search ∨ c.lock = .lineLock → n = 0 ∧ rem = 0) ∧
    ∀ std f, c.standard = some std → c.field = some f →
      (c.lock = .frameLock →
        n = (fieldStart std f.id + f.count - c.sinceGood + (t - c.goodTime) / c.period) % (frameLines std : Int) ∧
        rem = (t - c.goodTime) % c.period) ∧
      (c.lock = .flywheel →
        n = (fieldStart std f.id + f.count + (t - c.currentTime) / c.period) % (frameLines std : Int) ∧
        rem = (t - c.currentTime) % c.period)

/-- The raster stands at frame line n, rem sixteenths into it, at the moment t; past the line's or the frame's end it is carried on
(08 R166 item 6; log 27). -/
def placedAt (r : Raster) (n rem : Int) (t : Time) : Raster :=
  { r with
    line := ((n * r.line16 + rem) % r.frame16 / r.line16).toNat
    pos := (n * r.line16 + rem) % r.frame16 % r.line16 * 1048576
    posTime := t
    startDue := decide ((n * r.line16 + rem) % r.frame16 % r.line16 = 0) }

/-- A hard align of this cause made from s at the moment t, the output standard becoming std (08 R166): the new position; the slew
state settled with the offset kept; one pulse on RASTER RESET; the line in progress ended, and the field in progress, by a boundary;
RASTER RESET raised. -/
def Aligned (s u : State) (cause : AlignCause) (std : Standard) (t : Time) : Prop :=
  ∃ (n rem : Int) (r : Raster) (att : Attention), NewPosition s.rlc t n rem ∧
    r = { s.raster with
      std := std, slew := if s.rlc.lock = .frameLock then .track else .hold, segLines := 0, segDue := false, timer := 0
      timeoutDue := false, resetLow := false, pulses := s.raster.pulses + 1 } ∧
    BoundaryTaken { s with raster := r, keyer := { s.keyer with row := none, spans := [] } } u att ∧
    u.raster = placedAt r n rem t ∧ u.att = att.occur (.rasterReset cause)

/-! ## Invariants -/

/-- The laws of the plate table: no two live plates carry one tag (01 R9), and no two of one layer share a position (01 R12). -/
def TableLaws (ts : Slots) : Prop :=
  ∀ i j p q, i ≠ j → slotAt ts i = some p → slotAt ts j = some q →
    p.tag ≠ q.tag ∧ p.toHostFields.meets q.toHostFields = false

/-- The laws of a scene (05 R105). -/
def SceneLaws (c : Scene) : Prop :=
  c.images.length ≤ 32 ∧
    c.images.Pairwise (fun m n => m.tag ≠ n.tag ∧ m.toHostFields.meets n.toHostFields = false) ∧
    (c.valid = false → c.images = [] ∧ c.savedField = 0)

/-- The table and every scene obey their laws, and every new flag is clear (02 R40). -/
def TableInvariant (s : State) : Prop :=
  TableLaws s.table.slots ∧ (∀ n, SceneLaws (s.scenes.get n)) ∧ ∀ i p, slotAt s.table.slots i = some p → p.new = false

/-- The host fields lie in the ranges of 01 R4. -/
def HostFields.InRange (h : HostFields) : Prop :=
  h.tag ≠ 0 ∧ h.tag ≠ 255 ∧ h.group ≤ 7 ∧ h.layer ≤ 3 ∧ -1024 ≤ h.top ∧ h.top ≤ 2047 ∧ -1024 ≤ h.left ∧ h.left ≤ 2047 ∧
    1 ≤ h.height ∧ h.height ≤ 576 ∧ 1 ≤ h.width ∧ h.width ≤ 1024 ∧ (∀ x, h.transIndex = some x → x ≤ 15) ∧
    h.mixTarget ≤ 16 ∧ h.fadeStep ≤ 15 ∧ h.lifetime ≤ 65535 ∧ -16 ≤ h.rowRate ∧ h.rowRate ≤ 15 ∧ -32 ≤ h.colRate ∧
    h.colRate ≤ 31 ∧ (∀ x, h.stopRow = some x → -1024 ≤ x ∧ x ≤ 2047) ∧ (∀ x, h.stopCol = some x → -1024 ≤ x ∧ x ≤ 2047)

/-- A plate record lies in the ranges of 01 R4: an ARMED plate has current mix 0 (02 R43), a CLOSING plate a fade step above 0
(02 R56). -/
def Plate.InRange (p : Plate) : Prop :=
  p.toHostFields.InRange ∧ p.mix ≤ 16 ∧ (p.fadeStep = 0 → p.fadePhase = 0) ∧ (p.fadeStep ≠ 0 → p.fadePhase < p.fadeStep) ∧
    (p.state = .armed → p.mix = 0) ∧ (p.state = .closing → p.fadeStep ≠ 0)

/-- The selected values of an AMEND lie in the ranges of 02 R34, R35. -/
def FieldSelect.InRange (f : FieldSelect) : Prop :=
  (∀ x, f.group = some x → x ≤ 7) ∧ (∀ x, f.layer = some x → x ≤ 3) ∧ (∀ x, f.top = some x → -1024 ≤ x ∧ x ≤ 2047) ∧
    (∀ x, f.left = some x → -1024 ≤ x ∧ x ≤ 2047) ∧ (∀ x, f.height = some x → 1 ≤ x ∧ x ≤ 576) ∧
    (∀ x, f.width = some x → 1 ≤ x ∧ x ≤ 1024) ∧ (∀ x, f.transIndex = some (some x) → x ≤ 15) ∧
    (∀ x, f.mixTarget = some x → x ≤ 16) ∧ (∀ x, f.fadeStep = some x → x ≤ 15) ∧
    (∀ x, f.lifetime = some x → x ≤ 65535) ∧ (∀ x, f.rowRate = some x → -16 ≤ x ∧ x ≤ 15) ∧
    (∀ x, f.colRate = some x → -32 ≤ x ∧ x ≤ 31) ∧ (∀ x, f.stopRow = some (some x) → -1024 ≤ x ∧ x ≤ 2047) ∧
    (∀ x, f.stopCol = some (some x) → -1024 ≤ x ∧ x ≤ 2047)

/-- A tag that a plate can carry (01 R4). -/
def TagInRange (t : Byte) : Prop := t ≠ 0 ∧ t ≠ 255

/-- A queued amendment carries operands in the ranges of 02 R32, R34 and 04 R80; displacements are signed bytes. -/
def AmendOp.InRange : AmendOp → Prop
  | .place _ h => h.InRange
  | .amend t f => TagInRange t ∧ f.InRange
  | .showPlate t => TagInRange t
  | .close t => TagInRange t
  | .drop t => TagInRange t
  | .mix t level => TagInRange t ∧ level ≤ 16
  | .groupClose g => g ≤ 7
  | .groupMove g r c => g ≤ 7 ∧ -128 ≤ r ∧ r ≤ 127 ∧ -128 ≤ c ∧ c ≤ 127
  | .setPinned p => p ≤ 32
  | .recall n => n.val ≤ 3

/-- Plates, images and queued amendments lie in range, P is at most 32 and the rotation index lies between P and 31
(01 R4, R13, R15, R17); every cue lies in range (04 R80, R82). -/
def RangeInvariant (s : State) : Prop :=
  (∀ i p, slotAt s.table.slots i = some p → p.InRange) ∧
    (∀ n, ∀ m ∈ (s.scenes.get n).images, m.toHostFields.InRange) ∧
    (∀ a ∈ s.table.queue, a.op.InRange) ∧ (∀ i, (s.seq.cues.get i).inRange = true) ∧
    s.table.pinned ≤ 32 ∧ (s.table.pinned ≤ s.table.rotation.val ∨ s.table.rotation.val = 31)

/-- The FIFOs, the queue and the LIST cursor stay within their sizes (09 R174, R179; 02 R32; 01 R27, R29). -/
def SizeInvariant (s : State) : Prop :=
  s.port.requests.length ≤ 64 ∧ s.port.replies.length ≤ 64 ∧ s.table.queue.length ≤ 16 ∧
    ∀ j, s.port.job = .list j → j.cursor ≤ 32 ∧ j.items ≤ j.cursor

/-- The table of 04 R85: the run count and the delay counter in each state. -/
def SequencerTable (q : Sequencer) : Prop :=
  match q.state with
  | .halted => q.runCount = 0 ∧ q.delay = 0
  | .waiting => q.runCount = 0 ∧ q.delay = 0
  | .running => q.runCount ≤ 15 ∧ q.delay = 0
  | .stalled => q.runCount ≤ 15 ∧ q.delay = 0
  | .delaying => q.runCount = 0 ∧ 1 ≤ q.delay ∧ q.delay ≤ 65535

/-- The ranges of the interval timer (06 R122) and of the event counter (06 R125). -/
def ClockRanges (c : FieldClock) : Prop :=
  (c.intervalLength = 0 → c.intervalCount = 0) ∧ (c.intervalLength ≠ 0 → c.intervalCount < c.intervalLength) ∧
    (c.preset = 0 → c.count = 0) ∧ (c.preset ≠ 0 → 1 ≤ c.count ∧ c.count ≤ c.preset)

/-- The sequencer and the Field Clock stand as their chapters say; every cue lies in range, so no DELAY holds 0 fields. -/
def CountingInvariant (s : State) : Prop :=
  SequencerTable s.seq ∧ (∀ i, (s.seq.cues.get i).inRange = true) ∧
    (s.seq.expiryDue = true → s.seq.state = .delaying) ∧ (s.seq.resumeDue = true → s.seq.state = .stalled) ∧
    ClockRanges s.clock

/-- The reference field of a known standard has counted fewer lines than its expected length (07 R141). -/
def FieldInProgress (c : RefLock) : Prop :=
  ∃ std f, c.standard = some std ∧ c.field = some f ∧ f.count < expectedLines std f.id

/-- What each lock state knows of the reference (07 R138 to R147): SEARCH has no prediction, FRAME LOCK and FLYWHEEL a standard and
a field in progress, SEARCH and LINE LOCK no field. -/
def LockKnowledge (c : RefLock) : Prop :=
  match c.lock with
  | .search => c.prediction = none ∧ c.field = none
  | .lineLock => c.prediction.isSome = true ∧ c.field = none
  | .frameLock => c.prediction.isSome = true ∧ FieldInProgress c
  | .flywheel => c.prediction.isSome = true ∧ FieldInProgress c

/-- The nine raster parameters lie in the ranges of 08 R169; quick align is on or off. -/
def RasterParams.InRange (q : RasterParams) : Prop :=
  640 ≤ q.length625 ∧ q.length625 ≤ 1023 ∧ 640 ≤ q.length525 ∧ q.length525 ≤ 1023 ∧ 512 ≤ q.activeWidth ∧ q.activeWidth ≤ 960 ∧
    q.activeWidth + 64 ≤ q.length625 ∧ q.activeWidth + 64 ≤ q.length525 ∧ 1 ≤ q.pullLimit ∧ q.pullLimit ≤ 4095 ∧
    1 ≤ q.captureWindow ∧ q.captureWindow ≤ 255 ∧ 1 ≤ q.rampStep ∧ q.rampStep ≤ 255 ∧ 1 ≤ q.segmentLength ∧
    q.segmentLength ≤ 255 ∧ q.slewTimeout ≤ 65535

/-- The raster stands on a line of its frame, its parameters and the width in force in range (08 R156, R169, R170). -/
def RasterRanges (r : Raster) : Prop :=
  r.params.InRange ∧ 512 ≤ r.width ∧ r.width ≤ 960 ∧ r.line < frameLines r.std

/-- The timing laws: the offset never exceeds the pull limit (08 R159); RASTER RESET is High between commands (08 R166, R171); the
slew state is HOLD exactly outside FRAME LOCK (08, SLEW STATES). -/
def TimingInvariant (s : State) : Prop :=
  RasterRanges s.raster ∧ s.raster.resetLow = false ∧ s.raster.offset.natAbs ≤ s.raster.params.pullLimit ∧
    (s.raster.slew = .hold ↔ s.rlc.lock ≠ .frameLock) ∧ LockKnowledge s.rlc

/-- A clear cause has no MORE and no latch; a pending one holds the detail of an occurrence of its own (10 R188). -/
def AttentionInvariant (s : State) : Prop :=
  ∀ c, ((s.att.get c).pending = false → (s.att.get c).more = false ∧ (s.att.get c).latch = none) ∧
    ((s.att.get c).pending = true → ∃ d, (s.att.get c).latch = some d ∧ d.cause = c)

end Sys2Proof.Machine
end

