-- ==== Sys2Proof/Certificates/Slice0/Obligations.lean ====
section
/-! DEFINITION. The statements for the provers, one definition each; OBLIGATIONS.json lists them. -/

open Sys2Proof Sys2Proof.Machine

/-! ## The block, resets and the port -/

/-- A step takes the command at the front of the queue; with none waiting the block idles (the model's choice, log 3). -/
def Obligations.StepTakesFrontCommand : Prop :=
  (∀ (c : Instr) (rest : List Instr) (s : State),
    Sys2Proof.Machine.step { s with pending := c :: rest } = exec c { s with pending := rest }) ∧
  ∀ s : State, s.pending = [] → Sys2Proof.Machine.step s = .next s

/-- The Plate Table, the LIST and the causes after a power-on (01 R30). -/
def Obligations.PowerOnEmptiesTheTable : Prop :=
  ∀ s : State, ∃ t, exec .powerOnReset s = .next t ∧ (∀ i, slotAt t.table.slots i = none) ∧ t.table.pinned = 0 ∧
    t.table.rotation = 31 ∧ t.table.queue = [] ∧ (∀ j, t.port.job ≠ .list j) ∧ ∀ c, (t.att.get c).pending = false

/-- Every other power-on value that a reset table of the spec gives (03 R78, 04 R104, 05 R117, 06 R130, 07 R155, 08 R169, R171,
09 R186, 10 R194). RASTER RESET is held Low while RESET is Low, and released with the raster at frame line 0 (08 R171). The commands
that wait are kept, and RESET goes Low and High again in one command (the model's choice, log 16). -/
def Obligations.PowerOnSetsEveryBlock : Prop :=
  ∀ s : State, ∃ t, exec .powerOnReset s = .next t ∧ t.pending = s.pending ∧
    (t.port.requests = [] ∧ t.port.replies = [] ∧ t.port.rejecting = false ∧ t.port.job = .idle) ∧
    ((∀ i, t.keyer.live.get i = 4) ∧ (∀ i, t.keyer.pendingLevels.get i = 4) ∧ t.keyer.fallback = .cut ∧ t.keyer.visible = [] ∧
      t.keyer.spans = [] ∧ t.tally = false ∧ ∀ c i, t.keyAt c i = 0) ∧
    ((∀ i, t.seq.cues.get i = { action := .nothing, operand := 0, parameter := 0
                                flags := { wait := false, halt := true, end_ := false, notify := false } }) ∧
      t.seq.state = .halted ∧ t.seq.pointer = 0 ∧ t.seq.loopStart = 0 ∧ t.seq.mode = .once ∧
      t.seq.sources = { cueIn := false, interval := false, markA := false } ∧ t.seq.runCount = 0 ∧ t.seq.delay = 0) ∧
    (∀ n, t.scenes.get n = { valid := false, savedField := 0, images := [] }) ∧
    (t.clock.counter = 0 ∧ t.clock.markA = { value := 0, enable := false } ∧ t.clock.markB = { value := 0, enable := false } ∧
      t.clock.intervalLength = 0 ∧ t.clock.intervalCount = 0 ∧ t.clock.preset = 0 ∧ t.clock.count = 0 ∧
      t.clock.select = { field := false, trigger := false, endPass := false, cueIn := false, closing := false } ∧
      t.clock.haltOnCount = false) ∧
    (t.rlc.source = .a ∧ t.rlc.srcsel = .a ∧
      t.rlc.broadcast = { lineWindow := 2, qualify := 32, missLimit := 8, holdover := 50, zone := 0, trackGain := 4 } ∧
      t.rlc.tape = { lineWindow := 8, qualify := 16, missLimit := 16, holdover := 250, zone := 8, trackGain := 2 } ∧
      t.rlc.assignA = .broadcast ∧ t.rlc.assignB = .tape ∧ t.rlc.setting = .auto ∧ t.rlc.lock = .search ∧
      t.rlc.lastSync = none ∧ t.rlc.prediction = none ∧ t.rlc.goodCount = 0 ∧ t.rlc.missCount = 0 ∧ t.rlc.parityCount = 0 ∧
      t.rlc.waiting = false ∧ t.rlc.standard = none ∧ t.rlc.field = none ∧ t.rlc.holdover = 0 ∧ t.rlc.fields = 0 ∧
      t.rlc.phaseLines = 0 ∧ t.rlc.phaseSixteenths = 0 ∧ t.rlc.period = 0 ∧ t.rlc.fieldLength = 0 ∧
      t.rlc.faults.isEmpty = true ∧
      t.rlc.image = { lock := .search, slew := .hold, source := .a, standard := none, period := 0, fieldLength := 0
                      phaseLines := 0, phaseSixteenths := 0, offset := 0, fields := 0 }) ∧
    (t.raster.std = .s625 ∧ t.raster.line = 0 ∧ t.raster.pos = 0 ∧
      t.raster.params = { length625 := 864, length525 := 858, activeWidth := 720, pullLimit := 256, captureWindow := 4
                          rampStep := 8, segmentLength := 16, slewTimeout := 500, quickAlign := false } ∧
      t.raster.offset = 0 ∧ t.raster.slew = .hold ∧ t.raster.segLines = 0 ∧ t.raster.timer = 0) ∧
    ((holdReset s).raster.resetLow = true ∧ (holdReset s).raster.pulses = 0 ∧ t.raster.resetLow = false ∧ t.raster.pulses = 1 ∧
      t = { holdReset s with raster := { (holdReset s).raster with resetLow := false, pulses := 1 } }) ∧
    (∀ c, t.att.get c = { pending := false, more := false, enable := false, latch := none }) ∧ t.att.int = false

/-- SOFT RESET in every block (09 R184; 01 R31, 03 R77, 04 R104, 06 R130, 10 R194). That events given and not yet taken are discarded
is the model's reading (log 15). -/
def Obligations.SoftResetClearsDynamicState : Prop :=
  ∀ (s : State) (ctl : Byte), ctl.getLsbD 1 = true →
    ∃ a : Attention, (∀ c, a.get c = { pending := false, more := false, enable := false, latch := none }) ∧
      exec (.softReset ctl) s = .next { s with
        port := { requests := [], replies := [], rejecting := false, job := .idle, lastRead := s.port.lastRead }
        table := { slots := Vector.replicate 32 none, pinned := 0, rotation := 31, queue := [] }
        keyer := { s.keyer with visible := [], spans := [] }
        seq := { s.seq with state := .halted, pointer := 0, runCount := 0, delay := 0, intervalsDue := 0, marksDue := 0
                            haltsDue := 0, expiryDue := false, resumeDue := false }
        clock := { s.clock with count := s.clock.preset, handed := [] }
        att := a }

/-- ABORT empties both FIFOs, cancels a LIST or SYNC, clears REJECTING and touches nothing else (09 R183, R186). -/
def Obligations.AbortDiscardsPortTraffic : Prop :=
  ∀ (s : State) (ctl : Byte), ctl.getLsbD 0 = true → ctl.getLsbD 1 = false →
    exec (.abort ctl) s = .next { s with
      port := { requests := [], replies := [], rejecting := false, job := .idle, lastRead := s.port.lastRead } }

/-- Port control writes whose bits 0 and 1 are clear, bits 2 to 7, and writes in succession (09 R185). -/
def Obligations.PortControlReadsTwoBits : Prop :=
  (∀ (s : State) (ctl : Byte), ctl.getLsbD 0 = false → ctl.getLsbD 1 = false →
    exec (.abort ctl) s = .next s ∧ exec (.softReset ctl) s = .next s) ∧
  (∀ (s : State) (c d : Byte), c.getLsbD 0 = d.getLsbD 0 → c.getLsbD 1 = d.getLsbD 1 →
    exec (.abort c) s = exec (.abort d) s ∧ exec (.softReset c) s = exec (.softReset d) s) ∧
  (∀ (s t : State) (c d : Byte), c.getLsbD 0 = true → c.getLsbD 1 = false → d.getLsbD 0 = true → d.getLsbD 1 = false →
    exec (.abort c) s = .next t → exec (.abort d) t = .next t) ∧
  (∀ (s t : State) (c d : Byte), c.getLsbD 1 = true → d.getLsbD 0 = true → d.getLsbD 1 = false →
    exec (.softReset c) s = .next t → exec (.abort d) t = .next t)

/-- A byte written to location 0 joins the request FIFO, or is discarded with REJECTING and PORT OVERRUN, or is discarded in
silence (09 R174, R176). -/
def Obligations.RequestBytesJoinOrAreDiscarded : Prop :=
  ∀ (s : State) (b : Byte),
    (s.port.rejecting = false → s.port.requests.length < 64 →
      exec (.requestByteWrite b) s = .next { s with port := { s.port with requests := s.port.requests ++ [b] } }) ∧
    (s.port.rejecting = false → 64 ≤ s.port.requests.length →
      exec (.requestByteWrite b) s =
        .next { s with port := { s.port with rejecting := true }, att := s.att.occur .portOverrun }) ∧
    (s.port.rejecting = true → exec (.requestByteWrite b) s = .next s)

/-- A read of location 0 removes the oldest reply byte, or returns 00H; lastRead is the model's field for the byte returned
(09 R172; log 17). -/
def Obligations.ReplyBytesLeaveOldestFirst : Prop :=
  ∀ s : State,
    (∀ b rest, s.port.replies = b :: rest →
      exec .replyByteRead s = .next { s with port := { s.port with replies := rest, lastRead := b } }) ∧
    (s.port.replies = [] → exec .replyByteRead s = .next { s with port := { s.port with lastRead := 0x00#8 } })

/-- A clearing write clears the causes of its 1 bits and nothing else (10 R190). -/
def Obligations.ClearingWritesClearNamedCauses : Prop :=
  ∀ (s : State) (loc : BitVec 2) (bits : Byte), loc = 2#2 ∨ loc = 3#2 →
    ∃ t, exec (.attentionClear loc bits) s = .next t ∧ t = { s with att := t.att } ∧
      ∀ c : Cause,
        t.att.get c =
          if (loc = 2#2 ∧ c.number < 8 ∧ bits.getLsbD c.number = true) ∨
             (loc = 3#2 ∧ 8 ≤ c.number ∧ bits.getLsbD (c.number - 8) = true)
          then { s.att.get c with pending := false, more := false, latch := none }
          else s.att.get c

/-- One occurrence: a clear cause becomes pending and latches it, a pending one sets MORE, no other cause changes (10 R188). -/
def Obligations.OccurrencesLatchTheFirst : Prop :=
  ∀ (a : Attention) (d : Detail),
    ((a.get d.cause).pending = false →
      (a.occur d).get d.cause = { a.get d.cause with pending := true, latch := some d }) ∧
    ((a.get d.cause).pending = true → (a.occur d).get d.cause = { a.get d.cause with more := true }) ∧
    ∀ c, c ≠ d.cause → (a.occur d).get c = a.get c

/-- INT, bit 4 of the status byte, and the pending bytes of locations 2 and 3 (10 R192; 09 R172, R173). -/
def Obligations.IntFollowsPendingAndEnabled : Prop :=
  ∀ s : State,
    (s.att.int = true ↔ ∃ c, (s.att.get c).pending = true ∧ (s.att.get c).enable = true) ∧
    (s.statusByte.getLsbD 0 = true ↔ s.port.job ≠ .idle) ∧
    (s.statusByte.getLsbD 1 = true ↔ s.port.replies ≠ []) ∧
    (s.statusByte.getLsbD 2 = true ↔ s.port.requests.length ≤ 32) ∧
    (s.statusByte.getLsbD 3 = true ↔ s.port.rejecting = true) ∧
    (s.statusByte.getLsbD 4 = true ↔ s.att.int = true) ∧
    (∀ k, 5 ≤ k → s.statusByte.getLsbD k = false) ∧
    ∀ c : Cause,
      (c.number < 8 → s.location2.getLsbD c.number = (s.att.get c).pending) ∧
      (8 ≤ c.number → s.location3.getLsbD (c.number - 8) = (s.att.get c).pending)

/-- Requests refused for their form, with nothing else changed (09 R178): BAD REQUEST for an unknown code, consumed whole; BAD LENGTH for a
length byte above 30, consumed with its code (R175), and for a length the table does not allow; BAD OPERAND for operands that fail the
check. -/
def Obligations.RefusedRequestsChangeNothing : Prop :=
  (∀ (s : State) (rest : List Byte),
     (∀ c ops, (∀ r ∈ requestTable, r.code ≠ c) → ops.length ≤ 30 → RequestReady s c 2 ops rest →
       exec .unknownRequest s = .next (answered s rest 0x80#8 [])) ∧
     ∀ c n : Byte, s.port.requests = c :: n :: rest → 30 < n.toNat → s.port.job = .idle → s.port.replies.length + 2 ≤ 64 →
       exec .unframeableRequest s = .next (answered s rest 0x81#8 [])) ∧
  (∀ (i : Instr) (r : ReqInfo) (s : State) (ops rest : List Byte), requestOf i = some r → ops.length ≤ 30 →
     RequestReady s r.code r.largest ops rest →
       (ops.length ∉ r.lengths → exec i s = .next (answered s rest 0x81#8 [])) ∧
       (ops.length ∈ r.lengths → operandsOk s ops i = false → exec i s = .next (answered s rest 0x82#8 [])))

/-- A request waits, and nothing changes, while it is not complete at the head, while a LIST or a SYNC is in progress, and while its
largest reply has no room (09 R177). -/
def Obligations.RequestsWaitForTheirConditions : Prop :=
  ∀ (i : Instr) (r : ReqInfo) (s : State), requestOf i = some r →
    ((∀ ops rest, s.port.requests = r.code :: byteOf ops.length :: (ops ++ rest) → 30 < ops.length) ∨ s.port.job ≠ .idle ∨
      64 < s.port.replies.length + r.largest) →
    exec i s = .next s

/-! ## Requests of the Attention Unit, the Field Clock and the Keyer -/

/-- The requests that read and change nothing: READ COUNTERS (06 R129), READ CUES (04 R83), READ SCENES (05 R110), READ ATTENTION
(10 R193), with their bodies byte by byte (09 R187). -/
def Obligations.ReadRequestsOnlyReply : Prop :=
  (∀ (s : State) (rest : List Byte),
    (RequestReady s 0x14#8 10 [] rest →
      exec .readCounters s =
        .next (answered s rest 0x02#8 (le32 s.clock.counter ++ le16 s.clock.count ++ le16 s.clock.intervalCount))) ∧
    (∀ i n : Byte, RequestReady s 0x41#8 38 [i, n] rest → 1 ≤ n.toNat → n.toNat ≤ 7 → i.toNat + n.toNat ≤ 128 →
      ∃ status body, exec .readCues s = .next (answered s rest 0x02#8 (status ++ body)) ∧ StatusBlockOf s.seq status ∧
        body.length = 4 * n.toNat ∧
        ∀ (k : Nat) (j : CueIndex), k < n.toNat → j.val = i.toNat + k →
          (body.drop (4 * k)).take 4 = cueEntryBytes (s.seq.cues.get j)) ∧
    (RequestReady s 0x53#8 26 [] rest →
      ∃ b0 b1 b2 b3, exec .readScenes s = .next (answered s rest 0x02#8 (b0 ++ b1 ++ b2 ++ b3)) ∧
        SceneBytesOf (s.scenes.get 0) b0 ∧ SceneBytesOf (s.scenes.get 1) b1 ∧ SceneBytesOf (s.scenes.get 2) b2 ∧
        SceneBytesOf (s.scenes.get 3) b3) ∧
    (RequestReady s 0x62#8 41 [] rest →
      ∃ body, exec .readAttention s = .next (answered s rest 0x02#8 body) ∧ AttentionBodyOf s.att body ∧
        (AttentionInvariant s → body.length = 39))) ∧
  (∀ n : Nat, n ≤ 255 → (byteOf n).toNat = n) ∧
  (∀ n : Nat, n ≤ 65535 → (le16 n).length = 2 ∧ numAt (le16 n) 0 2 = n) ∧
  ∀ f : FieldNo, (le32 f).length = 4 ∧ numAt (le32 f) 0 4 = f.toNat

/-- SET FIELD COUNT (06 R119), SET MARK (06 R121), SET INTERVAL (06 R123) and SET COUNTER (06 R127). With no event waiting to be
counted the event counter holds the preset. -/
def Obligations.ClockRequestsWriteTheirRegisters : Prop :=
  ∀ (s : State) (rest : List Byte),
    (∀ b0 b1 b2 b3, RequestReady s 0x10#8 2 [b0, b1, b2, b3] rest →
      exec .setFieldCount s = .next { answered s rest 0x00#8 [] with
        clock := { s.clock with counter := b3 ++ b2 ++ b1 ++ b0 } }) ∧
    (∀ b0 b1 b2 b3 e, RequestReady s 0x11#8 2 [0x00#8, b0, b1, b2, b3, e] rest → e.toNat ≤ 1 →
      ∃ a : Attention, a.get .markA = { s.att.get .markA with pending := false, more := false, latch := none } ∧
        (∀ c, c ≠ .markA → a.get c = s.att.get c) ∧
        exec .setMark s = .next { answered s rest 0x00#8 [] with
          clock := { s.clock with markA := { value := b3 ++ b2 ++ b1 ++ b0, enable := e == 1 } }, att := a }) ∧
    (∀ b0 b1 b2 b3 e, RequestReady s 0x11#8 2 [0x01#8, b0, b1, b2, b3, e] rest → e.toNat ≤ 1 →
      ∃ a : Attention, a.get .markB = { s.att.get .markB with pending := false, more := false, latch := none } ∧
        (∀ c, c ≠ .markB → a.get c = s.att.get c) ∧
        exec .setMark s = .next { answered s rest 0x00#8 [] with
          clock := { s.clock with markB := { value := b3 ++ b2 ++ b1 ++ b0, enable := e == 1 } }, att := a }) ∧
    (∀ b0 b1 : Byte, RequestReady s 0x12#8 2 [b0, b1] rest → (b1 ++ b0).toNat ≤ 4095 →
      exec .setInterval s = .next { answered s rest 0x00#8 [] with
        clock := { s.clock with intervalLength := (b1 ++ b0).toNat, intervalCount := 0 } }) ∧
    (∀ b0 b1 e h : Byte, RequestReady s 0x13#8 2 [b0, b1, e, h] rest → e.toNat < 32 → h.toNat ≤ 1 →
      ∃ n es, exec .setCounter s = .next { answered s rest 0x00#8 [] with
          clock := { s.clock with
            preset := (b1 ++ b0).toNat, count := n, haltOnCount := h == 1, handed := es
            select := { field := e.getLsbD 0, trigger := e.getLsbD 1, endPass := e.getLsbD 2, cueIn := e.getLsbD 3,
                        closing := e.getLsbD 4 } } } ∧
        (s.clock.handed = [] → n = (b1 ++ b0).toNat ∧ es = []))

/-- SET ENABLES replaces the enable set (10 R191), SET LEVELS writes the pending table (03 R67), SET KEYING the fallback mode (03 R76). -/
def Obligations.EnableAndKeyerRequestsWriteTheirRegisters : Prop :=
  (∀ (s : State) (b c : Byte) (rest : List Byte), RequestReady s 0x61#8 2 [b, c] rest →
     ∃ a : Attention, exec .setEnables s = .next { answered s rest 0x00#8 [] with att := a } ∧
       ∀ k : Cause, a.get k = { s.att.get k with
         enable := if k.number < 8 then b.getLsbD k.number else c.getLsbD (k.number - 8) }) ∧
  (∀ (s : State) (rest : List Byte),
     (∀ ops : List Byte, ops.length = 16 → (∀ b ∈ ops, b.toNat ≤ 4) → RequestReady s 0x30#8 2 ops rest →
       ∃ v : Vector Nat 16, (∀ i : Fin 16, v.get i = (ops.getD i.val 0).toNat) ∧
         exec .setLevels s = .next { answered s rest 0x00#8 [] with keyer := { s.keyer with pendingLevels := v } }) ∧
     (∀ b m, (b = 0x00#8 ∧ m = Fallback.cut) ∨ (b = 0x01#8 ∧ m = Fallback.full) ∨ (b = 0x02#8 ∧ m = Fallback.keep) →
       RequestReady s 0x31#8 2 [b] rest →
       exec .setKeying s = .next { answered s rest 0x00#8 [] with keyer := { s.keyer with fallback := m } }))

/-! ## Posting requests and look-ups -/

/-- A posting request that passes its checks posts one amendment of origin REQUEST and is answered QUEUED with the depth (02 R33 to
R35; 01 R16, R19; 05 R111). -/
def Obligations.PostingRequestsQueueOneAmendment : Prop :=
  ∀ (s : State) (rest : List Byte), s.table.queue.length < 16 →
    (∀ ops, ops.length = 28 → placeOk ops = true → RequestReady s 0x20#8 3 ops rest →
      exec .place s = .next (queued s rest (.place (placeSlot ops) (placeFields ops)))) ∧
    (∀ ops, ops.length = 29 → amendOk ops = true → RequestReady s 0x21#8 3 ops rest →
      exec .amend s = .next (queued s rest (.amend (opByte ops 0) (amendFields ops)))) ∧
    (∀ t : Byte, t ≠ 0 → t ≠ 255 →
      (RequestReady s 0x22#8 3 [t] rest → exec .showPlate s = .next (queued s rest (.showPlate t))) ∧
      (RequestReady s 0x23#8 3 [t] rest → exec .close s = .next (queued s rest (.close t))) ∧
      (RequestReady s 0x24#8 3 [t] rest → exec .drop s = .next (queued s rest (.drop t)))) ∧
    (∀ g : Byte, g.toNat ≤ 7 →
      (RequestReady s 0x25#8 3 [g] rest → exec .groupClose s = .next (queued s rest (.groupClose g.toNat))) ∧
      ∀ r c : Byte, RequestReady s 0x26#8 3 [g, r, c] rest →
        exec .groupMove s = .next (queued s rest (.groupMove g.toNat r.toInt c.toInt))) ∧
    (∀ p : Byte, p.toNat ≤ 32 → RequestReady s 0x27#8 3 [p] rest →
      exec .setPinned s = .next (queued s rest (.setPinned p.toNat))) ∧
    (∀ (n : Byte) (c : SceneNo), n.toNat = c.val → (s.scenes.get c).valid = true → RequestReady s 0x51#8 3 [n] rest →
      exec .recallScene s = .next (queued s rest (.recall c)))

/-- A posting request in range is refused with QUEUE FULL when the queue holds 16 entries, RECALL SCENE before that with SCENE EMPTY
when the scene is invalid; nothing else changes (02 R33; 05 R111). -/
def Obligations.PostsAreRefusedWithoutRoomOrScene : Prop :=
  ∀ (s : State) (ops rest : List Byte),
    (∀ (i : Instr) (r : ReqInfo),
      i ∈ [Instr.place, .amend, .showPlate, .close, .drop, .groupClose, .groupMove, .setPinned] → requestOf i = some r →
      ops.length ∈ r.lengths → operandsOk s ops i = true → 16 ≤ s.table.queue.length → RequestReady s r.code 3 ops rest →
      exec i s = .next (answered s rest 0x83#8 [])) ∧
    ∀ (n : Byte) (c : SceneNo), n.toNat = c.val → RequestReady s 0x51#8 3 [n] rest →
      ((s.scenes.get c).valid = false → exec .recallScene s = .next (answered s rest 0x86#8 [])) ∧
      ((s.scenes.get c).valid = true → 16 ≤ s.table.queue.length →
        exec .recallScene s = .next (answered s rest 0x83#8 []))

/-- The 28 bytes of a PLACE whose fields lie in range are accepted and read back as those fields (02 R34; 09 R187). -/
def Obligations.PlaceOperandBytesReadBack : Prop :=
  ∀ (slot : Option Slot) (h : HostFields), h.InRange →
    (placeBytes slot h).length = 28 ∧ placeOk (placeBytes slot h) = true ∧ placeSlot (placeBytes slot h) = slot ∧
      placeFields (placeBytes slot h) = h

/-- The 29 bytes of an AMEND that names at least one field, its values in range, are accepted and read back (02 R35; 09 R187), and so are
the 4 bytes of a cue entry, which hold the action, the flags, the operand and the parameter (09 R187). -/
def Obligations.AmendAndCueBytesReadBack : Prop :=
  (∀ (tag : Byte) (f : FieldSelect), tag ≠ 0 → tag ≠ 255 → f.InRange → selectBits f ≠ 0 →
     (amendBytes tag f).length = 29 ∧ amendOk (amendBytes tag f) = true ∧ opByte (amendBytes tag f) 0 = tag ∧
       amendFields (amendBytes tag f) = f) ∧
  (∀ e : CueEntry, (cueEntryBytes e).length = 4 ∧ cueEntryAt (cueEntryBytes e) 0 = e ∧
     cueOk (cueEntryBytes e) 0 = e.inRange ∧ CueBytesOf e (cueEntryBytes e))

/-- QUERY reports the plate that carries the tag with the field number and the count of queued amendments that name the tag, or NOT
FOUND with that count (01 R23, R24); the 30 bytes of a plate record (09 R187), and which amendments name a tag (01 R24). -/
def Obligations.QueryReportsTheTaggedPlate : Prop :=
  (∀ (s : State) (t : Byte) (rest : List Byte), t ≠ 0 → t ≠ 255 → RequestReady s 0x28#8 33 [t] rest →
    (∀ i p, TableLaws s.table.slots → slotAt s.table.slots i = some p → p.tag = t →
      exec .query s = .next (answered s rest 0x02#8
        (plateRecord i s.clock.counter p ++ [byteOf (s.table.queue.filter fun a => a.op.names? == some t).length]))) ∧
    (¬ TagLive s.table.slots t →
      exec .query s =
        .next (answered s rest 0x84#8 [byteOf (s.table.queue.filter fun a => a.op.names? == some t).length]))) ∧
  (∀ (i : Slot) (f : FieldNo) (p : Plate), p.InRange → RecordOf i f p (plateRecord i f p)) ∧
  ∀ (op : AmendOp) (t : Byte), op.names? = some t ↔ Names op t

/-- PROBE reports the highest layer's tag and the number of plates of the latched visible set that cover the position, or NOT FOUND
(01 R25). Columns are those of the width in force (log 32). -/
def Obligations.ProbeReportsTheHighestCoveringPlate : Prop :=
  (∀ (v : VisPlate) (row col : Nat), v.coversAt row col = true ↔
    v.top ≤ row ∧ (row : Int) ≤ v.top + v.height - 1 ∧ v.left ≤ col ∧ (col : Int) ≤ v.left + v.width - 1) ∧
  ∀ (s : State) (r0 r1 c0 c1 : Byte) (rest : List Byte) (row col : Nat), row = (r1 ++ r0).toNat → col = (c1 ++ c0).toNat →
    row < (match s.raster.std with | .s625 => 576 | .s525 => 480) → col < s.raster.width →
    RequestReady s 0x29#8 4 [r0, r1, c0, c1] rest →
    ((∀ v ∈ s.keyer.visible, ¬ (v.top ≤ row ∧ (row : Int) ≤ v.top + v.height - 1 ∧ v.left ≤ col ∧
        (col : Int) ≤ v.left + v.width - 1)) → exec .probe s = .next (answered s rest 0x84#8 [])) ∧
    (∀ v ∈ s.keyer.visible, v.top ≤ row ∧ (row : Int) ≤ v.top + v.height - 1 ∧ v.left ≤ col ∧
        (col : Int) ≤ v.left + v.width - 1 →
      (∀ w ∈ s.keyer.visible, w ≠ v → w.coversAt row col = true → w.layer < v.layer) →
      exec .probe s = .next (answered s rest 0x02#8
        [v.tag, byteOf (s.keyer.visible.filter fun w => w.coversAt row col).length]))

/-- The plate's state is in the LIST's state set and its group in the group set (01 R26). -/
def ListMatches (j : ListJob) (p : Plate) : Prop :=
  ((p.state = .armed ∧ j.armed = true) ∨ (p.state = .shown ∧ j.shown = true) ∨ (p.state = .closing ∧ j.closing = true)) ∧
    j.groups.getLsbD p.group = true

/-- A LIST begins at slot 0 (01 R26) and goes on by its steps: examination, suspension for room, resumption, LIST END (01 R27 to R29). An
item is the plate record, whose 30 bytes QueryReportsTheTaggedPlate gives (09 R187). That
the resumption is a step of its own, before the slot is examined again, is the model's choice (log 14). -/
def Obligations.ListWalksTheSlots : Prop :=
  (∀ (s : State) (a g : Byte) (rest : List Byte), a.toNat < 8 → RequestReady s 0x2A#8 2 [a, g] rest →
     exec .list s = .next { s with port := { s.port with
       requests := rest
       job := .list { armed := a.getLsbD 0, shown := a.getLsbD 1, closing := a.getLsbD 2, groups := g, cursor := 0, items := 0,
                      suspended := false } } }) ∧
  (∀ (s : State) (j : ListJob), s.port.job = .list j →
     (∀ i : Slot, j.cursor = i.val → j.suspended = false →
       ((∀ p, slotAt s.table.slots i = some p → ¬ ListMatches j p) →
         exec .listSlotExamine s = .next { s with port := { s.port with job := .list { j with cursor := j.cursor + 1 } } }) ∧
       (∀ p, slotAt s.table.slots i = some p → ListMatches j p →
         (s.port.replies.length + 32 ≤ 64 →
           exec .listSlotExamine s = .next { s with port := { s.port with
             job := .list { j with cursor := j.cursor + 1, items := j.items + 1 }
             replies := s.port.replies ++ (0x03#8 :: 0x1E#8 :: plateRecord i s.clock.counter p) } }) ∧
         (64 < s.port.replies.length + 32 →
           exec .listSlotExamine s = .next { s with port := { s.port with job := .list { j with suspended := true } } }))) ∧
     (j.suspended = true → s.port.replies.length + 32 ≤ 64 →
       exec .listResume s = .next { s with port := { s.port with job := .list { j with suspended := false } } }) ∧
     (j.cursor = 32 → s.port.replies.length + 7 ≤ 64 →
       exec .listEnd s = .next { s with port := { s.port with
         job := .idle
         replies := s.port.replies ++ (0x04#8 :: 0x05#8 :: byteOf j.items :: le32 s.clock.counter) } }))

/-- SYNC waits (09 R181), and its FIELD REPORT carries the boundary's figures and the depth at the writing (09 R182). -/
def Obligations.SyncIsAnsweredByAFieldReport : Prop :=
  ∀ s : State,
    (∀ rest, RequestReady s 0x60#8 2 [] rest →
      exec .sync s = .next { s with port := { s.port with requests := rest, job := .sync none } }) ∧
    (∀ g, s.port.job = .sync (some g) → s.port.replies.length + 9 ≤ 64 →
      exec .fieldReport s = .next { s with port := { s.port with
        job := .idle
        replies := s.port.replies ++ (0x05#8 :: 0x07#8 :: (le32 g.field ++
          [byteOf g.applied, byteOf g.faulted, byteOf s.table.queue.length])) } }) ∧
    (s.port.job = .sync none → exec .fieldReport s = .next s)


/-! ## Requests of the Reference Lock Controller and the Raster Generator -/

/-- SET PROFILE replaces the six values of the named profile (07 R134), SET INPUT one assignment (07 R135), READ TIMING reports the
image and the sync-fault set in the 17 bytes of 09 R187, and empties the set (07 R154). -/
def Obligations.ReferenceSettingsAreReplaced : Prop :=
  ∀ (s : State) (rest : List Byte),
    (∀ n w q m h z g : Byte, n.toNat ≤ 1 → 1 ≤ w.toNat → w.toNat ≤ 31 → 8 ≤ q.toNat → 1 ≤ m.toNat → m.toNat ≤ 63 →
      z.toNat ≤ 15 → g.toNat ≤ 7 → RequestReady s 0x02#8 2 [n, w, q, m, h, z, g] rest →
      ∀ p : Profile, p = { lineWindow := w.toNat, qualify := q.toNat, missLimit := m.toNat, holdover := h.toNat,
                           zone := z.toNat, trackGain := g.toNat } →
        exec .setProfile s = .next { answered s rest 0x00#8 [] with
          rlc := if n = 0x00#8 then { s.rlc with broadcast := p } else { s.rlc with tape := p } }) ∧
    (∀ i p : Byte, i.toNat ≤ 1 → p.toNat ≤ 1 → RequestReady s 0x03#8 2 [i, p] rest →
      ∀ v : ProfileName, v = (if p = 0x00#8 then .broadcast else .tape) →
        exec .setInput s = .next { answered s rest 0x00#8 [] with
          rlc := if i = 0x00#8 then { s.rlc with assignA := v } else { s.rlc with assignB := v } }) ∧
    (RequestReady s 0x07#8 19 [] rest →
      ∃ body, TimingBodyOf s.rlc.image s.rlc.faults body ∧
        exec .readTiming s = .next { answered s rest 0x02#8 body with
          rlc := { s.rlc with faults := { mismatch := false, longField := false, shortField := false, parity := false,
                                          holdover := false } } })

/-- SELECT SOURCE (07 R149): the selected source named again changes nothing; otherwise SEARCH is entered from SEARCH and LINE LOCK,
FLYWHEEL from FRAME LOCK and FLYWHEEL (07 R144), with LOCK CHANGE where the lock state changes. From FRAME LOCK the next line is
predicted one measured period after the last line's time; in FLYWHEEL the line timing is kept. That a line still open is settled at
its own time, good if its sync has come, with the miss count and the measured period undecided, is the model's choice (log 38). -/
def Obligations.SelectSourceMovesTheLockState : Prop :=
  ∀ (s : State) (n : Byte) (rest : List Byte) (new : Input), n.toNat ≤ 1 → new = (if n = 0x00#8 then .a else .b) →
    RequestReady s 0x01#8 2 [n] rest →
    (s.rlc.source = new → exec .selectSource s = .next (answered s rest 0x00#8 [])) ∧
    (s.rlc.source ≠ new → s.rlc.lock = .search →
      exec .selectSource s = .next { answered s rest 0x00#8 [] with rlc := inSearch { s.rlc with source := new } }) ∧
    (s.rlc.source ≠ new → s.rlc.lock = .lineLock →
      exec .selectSource s = .next { answered s rest 0x00#8 [] with
        rlc := inSearch { s.rlc with source := new }
        raster := inHold s.raster
        att := s.att.occur (.lockChange .lineLock .search) }) ∧
    (s.rlc.source ≠ new → s.rlc.lock = .frameLock ∨ s.rlc.lock = .flywheel →
      ∀ c : RefLock,
        c = { s.rlc with source := new, lock := .flywheel, fields := 0, holdover := 0, goodCount := 0, waiting := false } →
        (s.rlc.lock = .frameLock → s.rlc.entered = false → exec .selectSource s = .next { answered s rest 0x00#8 [] with
          rlc := { c with prediction := some (s.rlc.lineTime + s.rlc.period), nominalNext := none }
          raster := inHold s.raster
          att := s.att.occur (.lockChange .frameLock .flywheel) }) ∧
        (∀ p lt : Time, s.rlc.lock = .frameLock → s.rlc.entered = true → s.rlc.prediction = some p →
          lt = s.rlc.windowSync.getD p → exec .selectSource s = .next { answered s rest 0x00#8 [] with
            rlc := { c with entered := false, lineTime := lt, lineGood := s.rlc.windowSync.isSome, windowSync := none
                            prediction := some (lt + s.rlc.period), nominalNext := none }
            raster := inHold s.raster
            att := s.att.occur (.lockChange .frameLock .flywheel) }) ∧
        (s.rlc.lock = .flywheel → exec .selectSource s = .next { answered s rest 0x00#8 [] with rlc := c }))

/-- SET STANDARD sets the setting (07 R136); in FRAME LOCK with a reference it forbids, STANDARD MISMATCH is added and the lock state
becomes LINE LOCK with the line timing kept. -/
def Obligations.SetStandardMayDropFrameLock : Prop :=
  ∀ (s : State) (n : Byte) (rest : List Byte) (z : StandardSetting),
    (n = 0x00#8 ∧ z = .auto) ∨ (n = 0x01#8 ∧ z = .only625) ∨ (n = 0x02#8 ∧ z = .only525) →
    RequestReady s 0x04#8 2 [n] rest →
    ((¬ ∃ std, s.rlc.lock = .frameLock ∧ s.rlc.standard = some std ∧ Forbids z std) →
      exec .setStandard s = .next { answered s rest 0x00#8 [] with rlc := { s.rlc with setting := z } }) ∧
    (∀ std, s.rlc.lock = .frameLock → s.rlc.standard = some std → Forbids z std →
      exec .setStandard s = .next { answered s rest 0x00#8 [] with
        rlc := { s.rlc with setting := z, faults := withMismatch s.rlc.faults, lock := .lineLock, fields := 0, field := none
                            pair := none }
        raster := inHold s.raster
        att := (mismatchRaised s.rlc.faults s.att).occur (.lockChange .frameLock .lineLock) })

/-- The raster with the parameters q at the moment t (08 R170): an offset beyond the pull limit is brought to it with its sign, a CRUISE
returns to RAMP UP under a raised limit, and the position is stated again at t (log 6). -/
def ParamsReplaced (r r' : Raster) (q : RasterParams) (t : Time) : Prop :=
  r' = { r with params := q, offset := r'.offset, slew := r'.slew, pos := r.pos + (t - r.posTime) * (1048576 + r.offset)
                posTime := t } ∧
    (r.offset.natAbs ≤ q.pullLimit → r'.offset = r.offset) ∧ ((q.pullLimit : Int) < r.offset → r'.offset = q.pullLimit) ∧
    (r.offset < -(q.pullLimit : Int) → r'.offset = -(q.pullLimit : Int)) ∧ (r.slew = .hold → r'.slew = .hold) ∧
    (r.slew = .track → r'.slew = .track) ∧
    ∀ w, r.slew = .slew w → r'.slew = .slew
      (if r.params.pullLimit < q.pullLimit ∧ w.stage = .cruise then { w with stage := .up } else w)

/-- The controller under the parameters q (08 R170): in FRAME LOCK a new nominal period of the reference's standard predicts the next
line that has not been entered (log 37). -/
def Repredicted (c c' : RefLock) (q0 q : RasterParams) : Prop :=
  (c.lock ≠ .frameLock ∨ c.standard = none → c' = c) ∧
    ∀ std, c.lock = .frameLock → c.standard = some std →
      (q.lineLength std = q0.lineLength std → c' = c) ∧
      (q.lineLength std ≠ q0.lineLength std →
        (c.entered = false → c' = { c with prediction := some (c.lineTime + (q.lineLength std : Int) * 16) }) ∧
        (c.entered = true → c' = { c with nominalNext := some ((q.lineLength std : Int) * 16) }))

/-- SET RASTER replaces the nine parameters by its 14 operand bytes when they are in range (08 R169; 09 R187), with the effects of
08 R170. A changed line length of the output standard makes a LINE LENGTH align in every lock state, with the offset as the new pull
limit leaves it. That a changed nominal period predicts one line is the model's reading (log 37). -/
def Obligations.SetRasterReplacesTheParameters : Prop :=
  ∀ (s : State) (t : Time) (rest : List Byte) (a0 a1 b0 b1 w0 w1 p0 p1 cw rs sl o0 o1 qa : Byte) (q : RasterParams),
    q = { length625 := (a1 ++ a0).toNat, length525 := (b1 ++ b0).toNat, activeWidth := (w1 ++ w0).toNat
          pullLimit := (p1 ++ p0).toNat, captureWindow := cw.toNat, rampStep := rs.toNat, segmentLength := sl.toNat
          slewTimeout := (o1 ++ o0).toNat, quickAlign := qa == 0x01#8 } →
    RequestReady s 0x05#8 2 [a0, a1, b0, b1, w0, w1, p0, p1, cw, rs, sl, o0, o1, qa] rest →
    (¬ (q.InRange ∧ qa.toNat ≤ 1) → exec (.setRaster t) s = .next (answered s rest 0x82#8 [])) ∧
    (q.InRange → qa.toNat ≤ 1 →
      ∃ (c : RefLock) (r : Raster), Repredicted s.rlc c s.raster.params q ∧ ParamsReplaced s.raster r q t ∧
        (q.lineLength s.raster.std = s.raster.params.lineLength s.raster.std →
          exec (.setRaster t) s = .next { answered s rest 0x00#8 [] with rlc := c, raster := r }) ∧
        (q.lineLength s.raster.std ≠ s.raster.params.lineLength s.raster.std →
          ∃ v, Aligned { s with port := { s.port with requests := rest }, rlc := c, raster := r } v .lineLength s.raster.std t ∧
            exec (.setRaster t) s =
              .next { v with port := { v.port with replies := v.port.replies ++ [0x00#8, 0x00#8] } }))

/-- ALIGN NOW outside FRAME LOCK is answered NO REFERENCE (08 R167). In FRAME LOCK it makes a hard align (08 R166): a boundary, TRACK
with the offset kept, one pulse, the line in progress discarded, RASTER RESET, and the raster at the reference's position: the last
good line's frame line and the time since, whole measured periods removed (07 R148; log 27, log 34). -/
def Obligations.AlignNowRestartsTheRaster : Prop :=
  ∀ (s : State) (t : Time) (rest : List Byte), RequestReady s 0x06#8 2 [] rest →
    (s.rlc.lock ≠ .frameLock → exec (.alignNow t) s = .next (answered s rest 0x87#8 [])) ∧
    (s.rlc.lock = .frameLock →
      ∃ v, Aligned { s with port := { s.port with requests := rest } } v .alignRequest s.raster.std t ∧
        exec (.alignNow t) s = .next { v with port := { v.port with replies := v.port.replies ++ [0x00#8, 0x00#8] } } ∧
        v.port = { s.port with requests := rest } ∧
        ∀ (std : Standard) (f : RefField) (n x : Int), s.rlc.standard = some std → s.rlc.field = some f →
          n = (fieldStart std f.id + f.count - s.rlc.sinceGood + (t - s.rlc.goodTime) / s.rlc.period) %
            (frameLines std : Int) →
          x = (n * s.raster.line16 + (t - s.rlc.goodTime) % s.rlc.period) % s.raster.frame16 →
          v.raster = { s.raster with
            slew := .track, segLines := 0, segDue := false, timer := 0, timeoutDue := false, resetLow := false
            pulses := s.raster.pulses + 1, line := (x / s.raster.line16).toNat
            pos := (x % s.raster.line16) * 1048576, posTime := t, startDue := decide (x % s.raster.line16 = 0) })

/-! ## The Cue Sequencer, the scenes and the Field Clock's events -/

/-- WRITE CUES writes consecutive entries (04 R82), SET SEQUENCER the loop start, the mode and the trigger sources (04 R84), START
makes a HALTED sequencer WAITING (04 R86); each answers SEQUENCER ACTIVE, with nothing changed, in any other state. -/
def Obligations.HaltedSequencerAcceptsSettings : Prop :=
  ∀ (s : State) (ops rest : List Byte),
    (ops.length ∈ [5, 9, 13, 17, 21, 25, 29] → writeCuesOk ops = true → RequestReady s 0x40#8 2 ops rest →
      (s.seq.state ≠ .halted → exec .writeCues s = .next (answered s rest 0x85#8 [])) ∧
      (s.seq.state = .halted → ∃ v : Vector CueEntry 128,
        exec .writeCues s = .next { answered s rest 0x00#8 [] with seq := { s.seq with cues := v } } ∧
        ∀ i : CueIndex,
          (∀ k, 4 * k + 1 < ops.length → i.val = op8 ops 0 + k → v.get i = cueEntryAt ops (1 + 4 * k)) ∧
          (i.val < op8 ops 0 ∨ op8 ops 0 + (ops.length - 1) / 4 ≤ i.val → v.get i = s.seq.cues.get i))) ∧
    (∀ l m x : Byte, l.toNat ≤ 127 → m.toNat ≤ 1 → x.toNat < 8 → RequestReady s 0x42#8 2 [l, m, x] rest →
      (s.seq.state ≠ .halted → exec .setSequencer s = .next (answered s rest 0x85#8 [])) ∧
      (s.seq.state = .halted → ∀ i : CueIndex, i.val = l.toNat →
        exec .setSequencer s = .next { answered s rest 0x00#8 [] with
          seq := { s.seq with
            loopStart := i, mode := if m = 0x00#8 then .once else .loop
            sources := { cueIn := x.getLsbD 0, interval := x.getLsbD 1, markA := x.getLsbD 2 } } })) ∧
    (RequestReady s 0x43#8 2 [] rest →
      (s.seq.state ≠ .halted → exec .start s = .next (answered s rest 0x85#8 [])) ∧
      (s.seq.state = .halted →
        exec .start s = .next { answered s rest 0x00#8 [] with seq := { s.seq with state := .waiting } })) ∧
    (∀ p : Byte, p.toNat ≤ 127 → RequestReady s 0x43#8 2 [p] rest →
      (s.seq.state ≠ .halted → exec .start s = .next (answered s rest 0x85#8 [])) ∧
      (s.seq.state = .halted → ∀ i : CueIndex, i.val = p.toNat →
        exec .start s = .next { answered s rest 0x00#8 [] with seq := { s.seq with state := .waiting, pointer := i } }))

/-- HALT, and a halt given by the event counter, make the state HALTED with run count and delay counter 0 and the pointer kept, and
post nothing (04 R87; 06 R125, R128). That the counter's halt waits in haltsDue is the model's choice (log 9). -/
def Obligations.HaltsLeaveThePointer : Prop :=
  ∀ s : State,
    (∀ rest, RequestReady s 0x44#8 2 [] rest →
      exec .halt s = .next { answered s rest 0x00#8 [] with
        seq := { s.seq with state := .halted, runCount := 0, delay := 0, expiryDue := false, resumeDue := false } }) ∧
    (∀ n, s.seq.haltsDue = n + 1 →
      exec .haltOnCount s = .next { s with
        seq := { s.seq with state := .halted, runCount := 0, delay := 0, expiryDue := false, resumeDue := false
                            haltsDue := n } }) ∧
    (s.seq.haltsDue = 0 → exec .haltOnCount s = .next s)

/-- A trigger by the state that it finds (04 R89): STEP always (04 R91), a rising edge of CUE IN, an interval expiry and a match of mark
A when their source is selected (04 R88; 06 R122, R124, R128): accepted in WAITING, ignored in HALTED, missed in RUNNING, STALLED and
DELAYING. That an expiry waits in intervalsDue (log 9), a match in marksDue until a line start takes it first (log 8), and that the
trigger of an edge comes before a halt given by the edge's own count (log 39), is the model's choice. -/
def Obligations.TriggersActByState : Prop :=
  (∀ s : State,
    (s.seq.state = .halted → trigger s = s) ∧
    (s.seq.state = .waiting → trigger s = { s with
      seq := { s.seq with state := .running, runCount := 0, delay := 0, expiryDue := false }
      clock := s.clock.hand [.trigger] }) ∧
    (s.seq.state = .running ∨ s.seq.state = .stalled ∨ s.seq.state = .delaying →
      trigger s = { s with att := s.att.occur (.sequencerFault .missedTrigger s.seq.pointer) })) ∧
  (∀ (s : State) (rest : List Byte), RequestReady s 0x45#8 2 [] rest →
    exec .step s = .next (answered (trigger { s with port := { s.port with requests := rest } }) rest 0x00#8 [])) ∧
  (∀ s : State,
    (s.seq.sources.cueIn = true → exec .cueInEdge s = .next (trigger { s with clock := s.clock.hand [.cueIn] })) ∧
    (s.seq.sources.cueIn = false → exec .cueInEdge s = .next { s with clock := s.clock.hand [.cueIn] })) ∧
  (∀ (s : State) (n : Nat), s.seq.intervalsDue = n + 1 →
    (s.seq.sources.interval = true →
      exec .intervalExpiry s = .next (trigger { s with seq := { s.seq with intervalsDue := n } })) ∧
    (s.seq.sources.interval = false → exec .intervalExpiry s = .next { s with seq := { s.seq with intervalsDue := n } })) ∧
  (∀ (s : State) (n : Nat), s.seq.marksDue = n + 1 →
    (s.seq.sources.markA = true →
      exec .lineStart s =
        .next (nextLineStart (settleSegments (trigger { s with seq := { s.seq with marksDue := n } })))) ∧
    (s.seq.sources.markA = false →
      exec .lineStart s = .next (nextLineStart (settleSegments { s with seq := { s.seq with marksDue := n } })))) ∧
  ∀ s : State, s.seq.intervalsDue = 0 → exec .intervalExpiry s = .next s

/-- The event counter (06 R124 to R126): events are counted in order, one decrement each; a selected event takes 1 from a counter above
1, an event not selected and a counter that is off change nothing. An event that takes the counter to 0 waits, with those behind it,
for COUNT DONE (the model's choice, log 10), which is raised, loads the preset again and gives a halt when halt-on-count is set; those
behind it are then counted on. A boundary's FIELD event is counted at once. That a halt given waits in haltsDue is the model's choice
(log 9). -/
def Obligations.EventCounterCountsSelectedEvents : Prop :=
  (∀ c : FieldClock, c.handed = [] → c.hand [] = c) ∧
  (∀ (c : FieldClock) (e : CountEvent) (es : List CountEvent), c.handed = [] →
    (c.select.has e = false ∨ c.preset = 0 → c.hand (e :: es) = c.hand es) ∧
    (c.select.has e = true → c.preset ≠ 0 → 1 < c.count → c.hand (e :: es) = { c with count := c.count - 1 }.hand es) ∧
    (c.select.has e = true → c.preset ≠ 0 → c.count ≤ 1 → c.hand (e :: es) = { c with handed := e :: es })) ∧
  (∀ (c : FieldClock) (e : CountEvent) (es ds : List CountEvent), c.handed = e :: es → c.select.has e = true → c.preset ≠ 0 →
    c.count ≤ 1 → c.hand ds = { c with handed := e :: es ++ ds }) ∧
  (∀ (s : State) (e : CountEvent) (es : List CountEvent), s.clock.handed = e :: es → s.clock.select.has e = true →
    s.clock.preset ≠ 0 → s.clock.count ≤ 1 →
    exec .countDone s = .next { s with
      clock := { s.clock with count := s.clock.preset, handed := [] }.hand es
      att := s.att.occur .countDone
      seq := { s.seq with haltsDue := s.seq.haltsDue + (if s.clock.haltOnCount then 1 else 0) } }) ∧
  (∀ s : State, (∀ e es, s.clock.handed = e :: es →
      s.clock.select.has e = false ∨ s.clock.preset = 0 ∨ 1 < s.clock.count) → exec .countDone s = .next s) ∧
  (∀ s : State,
    (s.clock.select.field = false ∨ s.clock.preset = 0 → countField s = s) ∧
    (s.clock.select.field = true → s.clock.preset ≠ 0 → 1 < s.clock.count →
      countField s = { s with clock := { s.clock with count := s.clock.count - 1 } }) ∧
    (s.clock.select.field = true → s.clock.preset ≠ 0 → s.clock.count ≤ 1 →
      countField s = { s with
        clock := { s.clock with count := s.clock.preset, handed := [] }.hand s.clock.handed
        att := s.att.occur .countDone
        seq := { s.seq with haltsDue := s.seq.haltsDue + (if s.clock.haltOnCount then 1 else 0) } })) ∧
  ∀ sel : EventSelect, sel.has .trigger = sel.trigger ∧ sel.has .endPass = sel.endPass ∧ sel.has .cueIn = sel.cueIn ∧
    sel.has .closing = sel.closing

/-- DO CUE executes the entry it carries and touches no part of the sequencer (04 R102; 02 R36); the amendment that each cue action posts
(04 R80). -/
def Obligations.DoCueExecutesOneEntry : Prop :=
  (∀ (s : State) (ops rest : List Byte) (e : CueEntry) (a : Attention), ops.length = 4 → cueOk ops 0 = true →
     e = cueEntryAt ops 0 → a = (if e.flags.notify then s.att.occur (.cueNotify 0xFF#8) else s.att) →
     RequestReady s 0x46#8 3 ops rest →
     (e.amendment? = none → exec .doCue s = .next { answered s rest 0x00#8 [] with att := a }) ∧
     (∀ op, e.amendment? = some op → s.table.queue.length < 16 → exec .doCue s = .next { queued s rest op with att := a }) ∧
     (∀ op, e.amendment? = some op → 16 ≤ s.table.queue.length → exec .doCue s = .next (answered s rest 0x83#8 []))) ∧
  (∀ e : CueEntry,
     (e.action = .nothing ∨ e.action = .delay → e.amendment? = none) ∧
     (e.action = .showPlate → e.amendment? = some (.showPlate e.operand)) ∧
     (e.action = .close → e.amendment? = some (.close e.operand)) ∧
     (e.action = .drop → e.amendment? = some (.drop e.operand)) ∧
     (e.action = .mix → e.amendment? = some (.mix e.operand e.parameter.toNat)) ∧
     (e.action = .groupClose → e.amendment? = some (.groupClose e.operand.toNat)) ∧
     (∀ r c : Byte, e.action = .groupMove → e.parameter = c ++ r →
       e.amendment? = some (.groupMove e.operand.toNat r.toInt c.toInt)) ∧
     (∀ n : SceneNo, e.action = .recall → e.operand.toNat = n.val → e.amendment? = some (.recall n)))

/-- CUE EXECUTION in RUNNING (04 R93 to R96, R99): a posting cue that finds the queue full stalls the run; any other posts its
amendment with origin CUE, raises CUE NOTIFY when flagged, moves the pointer, and ends or goes on by the ending decision. -/
def Obligations.CueExecutionFollowsTheRun : Prop :=
  ∀ (s : State) (e : CueEntry) (pass : Bool) (next : CueIndex), s.seq.state = .running →
    e = s.seq.cues.get s.seq.pointer → pass = (e.flags.end_ || decide (s.seq.pointer.val = 127)) →
    (pass = true → next = s.seq.loopStart) → (pass = false → next.val = s.seq.pointer.val + 1) →
    (∀ op, e.amendment? = some op → 16 ≤ s.table.queue.length →
      exec .cueExecution s = .next { s with
        seq := { s.seq with state := .stalled, resumeDue := false }
        att := s.att.occur (.sequencerFault .stall s.seq.pointer) }) ∧
    (∀ (q : PlateTable) (a : Attention) (k : FieldClock),
      (e.amendment? = none ∧ q = s.table) ∨
        (∃ op, e.amendment? = some op ∧ s.table.queue.length < 16 ∧
          q = { s.table with queue := s.table.queue ++ [{ origin := .cue s.seq.pointer, op := op }] }) →
      a = (if e.flags.notify then s.att.occur (.cueNotify (byteOf s.seq.pointer.val)) else s.att) →
      k = (if pass then s.clock.hand [.endPass] else s.clock.hand []) →
      (e.flags.halt = true ∨ (pass = true ∧ s.seq.mode = .once) →
        exec .cueExecution s = .next { s with
          table := q, att := a, clock := k
          seq := { s.seq with pointer := next, state := .halted, runCount := 0, delay := 0, expiryDue := false
                              resumeDue := false } }) ∧
      (e.flags.halt = false → ¬ (pass = true ∧ s.seq.mode = .once) →
        (e.action = .delay →
          exec .cueExecution s = .next { s with
            table := q, att := a, clock := k
            seq := { s.seq with pointer := next, state := .delaying, runCount := 0, delay := e.parameter.toNat
                                expiryDue := false } }) ∧
        (e.action ≠ .delay → e.flags.wait = true →
          exec .cueExecution s = .next { s with
            table := q, att := a, clock := k
            seq := { s.seq with pointer := next, state := .waiting, runCount := 0, delay := 0 } }) ∧
        (e.action ≠ .delay → e.flags.wait = false → 16 ≤ s.seq.runCount + 1 →
          exec .cueExecution s = .next { s with
            table := q, att := a.occur (.sequencerFault .runaway s.seq.pointer), clock := k
            seq := { s.seq with pointer := next, state := .halted, runCount := 0, delay := 0, expiryDue := false
                                resumeDue := false } }) ∧
        (e.action ≠ .delay → e.flags.wait = false → s.seq.runCount + 1 < 16 →
          exec .cueExecution s = .next { s with
            table := q, att := a, clock := k
            seq := { s.seq with pointer := next, runCount := s.seq.runCount + 1 } })))

/-- A boundary lets a stalled run resume: the state becomes RUNNING and the stalled cue is executed with the run count it kept, whatever
that execution comes to (04 R100). It counts a delay down to its expiry, which starts a run at the pointer (04 R98). That both wait
in the state until they are taken is the model's choice (log 9). -/
def Obligations.StallsAndDelaysGoOnAfterABoundary : Prop :=
  (∀ q : Sequencer,
    (q.state = .stalled → q.boundary = { q with resumeDue := true }) ∧
    (q.state = .delaying → 1 < q.delay → q.boundary = { q with delay := q.delay - 1 }) ∧
    (q.state = .delaying → q.delay ≤ 1 → q.boundary = { q with expiryDue := true }) ∧
    (q.state ≠ .stalled → q.state ≠ .delaying → q.boundary = q)) ∧
  ∀ s : State,
    (s.seq.state = .stalled → s.seq.resumeDue = true →
      ∃ u, exec .stallResumption s = .next u ∧
        exec .cueExecution { s with seq := { s.seq with state := .running, resumeDue := false } } = .next u) ∧
    (¬ (s.seq.state = .stalled ∧ s.seq.resumeDue = true) → exec .stallResumption s = .next s) ∧
    (s.seq.state = .delaying → s.seq.expiryDue = true →
      exec .delayExpiry s = .next { s with
        seq := { s.seq with state := .running, runCount := 0, delay := 0, expiryDue := false } }) ∧
    (¬ (s.seq.state = .delaying ∧ s.seq.expiryDue = true) → exec .delayExpiry s = .next s)

/-- The host fields of a plate kept with whether it was SHOWN (05 R106). -/
def ImageOf (p : Plate) (m : Image) : Prop := m.toHostFields = p.toHostFields ∧ (m.shown = true ↔ p.state = .shown)

/-- SAVE SCENE copies the unpinned ARMED and SHOWN plates in slot order, with the field counter (05 R107); CLEAR SCENE makes the scene
invalid (05 R109). The other scenes and everything else are kept. -/
def Obligations.ScenesAreSavedAndCleared : Prop :=
  ∀ (s : State) (n : Byte) (c : SceneNo) (rest : List Byte), n.toNat = c.val →
    (RequestReady s 0x50#8 8 [n] rest →
      ∃ (v : Scenes) (slots : List Slot),
        exec .saveScene s = .next { answered s rest 0x02#8
          (n :: byteOf (v.get c).images.length :: le32 s.clock.counter) with scenes := v } ∧
        (∀ k, k ≠ c → v.get k = s.scenes.get k) ∧
        (v.get c).valid = true ∧ (v.get c).savedField = s.clock.counter ∧
        slots.Pairwise (fun i j => i < j) ∧
        (∀ i, i ∈ slots ↔ s.table.pinned ≤ i.val ∧ ∃ p, slotAt s.table.slots i = some p ∧ p.state ≠ .closing) ∧
        List.Forall₂ (fun i m => ∃ p, slotAt s.table.slots i = some p ∧ ImageOf p m) slots (v.get c).images) ∧
    (RequestReady s 0x52#8 2 [n] rest →
      ∃ v : Scenes, exec .clearScene s = .next { answered s rest 0x00#8 [] with scenes := v } ∧
        (∀ k, k ≠ c → v.get k = s.scenes.get k) ∧ v.get c = { valid := false, savedField := 0, images := [] })

/-! ## The field boundary and the amendments -/

/-- FIELD BOUNDARY, taken while the last line of a field is in progress and not before (08 R158, R168), reaches every block: the field
number, the marks, the interval timer and the FIELD event (06 R118 to R126), the table, its notices in order, its closings and its
figures for a waiting SYNC (02 R38, R39, R51; 09 R181), the visible set and the levels (03 R61 to R63, R66), the delay and a stalled
run (04 R98, R100), the controller's share (07 R153), the slew timer (08 R165), and the raster at the next field's first line (08 R156).
The model's choices: that line's start is left due (log 7), a MARK A event waits in marksDue (log 8) and the others in their fields
(log 9, log 10), a share of an earlier boundary comes first (log 11), the order of the blocks (log 36). -/
def Obligations.FieldBoundaryReachesEveryBlock : Prop :=
  (∀ s : State, ¬ LastFieldLine s.raster → exec .fieldBoundary s = .next s) ∧
  ∀ (s t : State) (e : Time), LastFieldLine s.raster → t = settleShare s → e = s.raster.lineEnd →
    ∃ u, exec .fieldBoundary s = .next u ∧ BoundaryTaken s u u.att ∧
      u.raster = { t.raster.countTimer with
        line := (s.raster.line + 1) % frameLines s.raster.std
        pos := s.raster.pos + (e - s.raster.posTime) * (1048576 + s.raster.offset) - s.raster.line16 * 1048576
        posTime := e, startDue := true } ∧
      u.clock.counter = s.clock.counter + 1 ∧ u.table.queue = []

/-- The controller's share of a boundary (07 R145, R150, R151, R153), at a boundary with none of an earlier one due: it is taken at once,
or, when it ends the holdover, by HOLDOVER_EXPIRY (log 11), which adds HOLDOVER EXPIRED and enters SEARCH. -/
def Obligations.ControllerTakesItsShareOfABoundary : Prop :=
  ∀ (s : State) (expiry : Prop),
    (expiry ↔ s.rlc.lock = .flywheel ∧ s.rlc.inForce.holdover ≠ 0 ∧
      s.rlc.inForce.holdover ≤ min (s.rlc.holdover + 1) 255) →
    (LastFieldLine s.raster → s.rlc.shareDue = false → ¬ expiry →
      ∃ u, exec .fieldBoundary s = .next u ∧
        u.rlc = { s.rlc with
          holdover := if s.rlc.lock = .flywheel then min (s.rlc.holdover + 1) 255 else s.rlc.holdover
          fields := min (s.rlc.fields + 1) 65535, srcsel := s.rlc.source
          image := { lock := s.rlc.lock, slew := s.raster.slew.name, source := s.rlc.source, standard := s.rlc.standard
                     period := s.rlc.period, fieldLength := s.rlc.fieldLength, phaseLines := s.rlc.phaseLines
                     phaseSixteenths := s.rlc.phaseSixteenths, offset := s.raster.offset
                     fields := min (s.rlc.fields + 1) 65535 } }) ∧
    (LastFieldLine s.raster → s.rlc.shareDue = false → expiry →
      ∃ u, exec .fieldBoundary s = .next u ∧ u.rlc = { s.rlc with shareDue := true }) ∧
    (s.rlc.shareDue = true → expiry →
      ∃ (u : State) (g : TimingImage), exec .holdoverExpiry s = .next u ∧
        g = { lock := .search, slew := .hold, source := s.rlc.source, standard := none, period := s.rlc.period
              fieldLength := s.rlc.fieldLength, phaseLines := s.rlc.phaseLines
              phaseSixteenths := s.rlc.phaseSixteenths, offset := s.raster.offset, fields := 1 } ∧
        u = { s with
          rlc := { inSearch s.rlc with
            faults := { s.rlc.faults with holdover := true }, fields := 1, srcsel := s.rlc.source, shareDue := false
            image := g }
          raster := inHold s.raster
          att := (if s.rlc.faults.holdover then s.att else s.att.occur (.syncFault
            { mismatch := false, longField := false, shortField := false, parity := false, holdover := true })).occur
              (.lockChange .flywheel .search) }) ∧
    (s.rlc.shareDue = false → exec .holdoverExpiry s = .next s)

/-- The Plate Table's boundary in four parts (02 R38 to R40): every amendment is carried out or faults, whole, oldest first; the advance
takes the slots in ascending order (02 R52) from what the queue left; every new flag is cleared; the rotation index steps down, to 31
below P, unless a SET PINNED was applied (01 R17). The notices and the closings are those of the queue and then of the advance. -/
def Obligations.TableTakesABoundaryInFourParts : Prop :=
  (∀ (f : FieldNo) (sc : Scenes) (w : TableWork) (a : Amendment),
    (∀ r, applyOp f sc w a.op = .error r → applyAmendment f sc w a = faultedBy w a r) ∧
    (∀ v, applyOp f sc w a.op = .ok v → applyAmendment f sc w a = { v with applied := v.applied + 1 })) ∧
  ∀ (f : FieldNo) (sc : Scenes) (t : PlateTable) (q v w : TableWork),
    q = t.queue.foldl (applyAmendment f sc)
      { slots := t.slots, pinned := t.pinned, rotation := t.rotation, pinnedSet := false, notices := [], closings := 0
        applied := 0, faulted := 0 } →
    v = (List.finRange 32).foldl (advanceSlot f) q → w = tableBoundary f sc t →
      (∀ i, slotAt w.slots i = (slotAt v.slots i).map fun p => { p with new := false }) ∧
      w.notices = v.notices ∧ w.closings = v.closings ∧
      (∃ ds n, v.notices = q.notices ++ ds ∧ v.closings = q.closings + n) ∧
      v.pinned = q.pinned ∧ v.rotation = q.rotation ∧ w.pinned = q.pinned ∧ w.applied = q.applied ∧ w.faulted = q.faulted ∧
      w.applied + w.faulted = t.queue.length ∧
      ((∃ a ∈ t.queue, ∃ p, a.op = .setPinned p) → w.rotation = q.rotation) ∧
      ((∀ a ∈ t.queue, ∀ p, a.op ≠ .setPinned p) →
        (q.rotation.val ≤ q.pinned → w.rotation = 31) ∧ (q.pinned < q.rotation.val → w.rotation.val + 1 = q.rotation.val))

/-- The plate that a PLACE creates in the field f (02 R41). -/
def PlacedAs (f : FieldNo) (h : HostFields) (p : Plate) : Prop :=
  p.toHostFields = h ∧ p.fadePhase = 0 ∧ p.held = false ∧ p.new = true ∧
    (StartsAt h.start f → p.state = .shown ∧ p.mix = if h.fadeStep = 0 then h.mixTarget else 0) ∧
    (¬ StartsAt h.start f → p.state = .armed ∧ p.mix = 0)

/-- PLACE by its checks in order (01 R19 to R21; 02 R41): TAG IN USE, then SLOT IN USE (explicit) or TABLE FULL (ANY), then OVERLAP; a
PLACE ANY takes the lowest FREE unpinned slot, or evicts the plate at the rotation index. -/
def Obligations.PlaceChecksThenCreates : Prop :=
  ∀ (f : FieldNo) (sc : Scenes) (w : TableWork) (o : Origin) (h : HostFields) (ds : List Detail),
    (StartsAt h.start f → ds = shownRaised h) → (¬ StartsAt h.start f → ds = []) →
    (∀ (i : Slot) (a : Amendment), a = { origin := o, op := .place (some i) h } →
      (TagLive w.slots h.tag → applyAmendment f sc w a = faultedBy w a .tagInUse) ∧
      (¬ TagLive w.slots h.tag → slotAt w.slots i ≠ none → applyAmendment f sc w a = faultedBy w a .slotInUse) ∧
      (¬ TagLive w.slots h.tag → slotAt w.slots i = none → MeetsLive w.slots (fun _ => False) h →
        applyAmendment f sc w a = faultedBy w a .overlap) ∧
      (¬ TagLive w.slots h.tag → slotAt w.slots i = none → ¬ MeetsLive w.slots (fun _ => False) h →
        ∃ p, PlacedAs f h p ∧ applyAmendment f sc w a = carried w (putSlot w.slots i (some p)) ds)) ∧
    (∀ a : Amendment, a = { origin := o, op := .place none h } →
      (TagLive w.slots h.tag → applyAmendment f sc w a = faultedBy w a .tagInUse) ∧
      (¬ TagLive w.slots h.tag → 32 ≤ w.pinned → applyAmendment f sc w a = faultedBy w a .tableFull) ∧
      (¬ TagLive w.slots h.tag → w.pinned < 32 → MeetsLive w.slots (fun _ => False) h →
        applyAmendment f sc w a = faultedBy w a .overlap) ∧
      (¬ TagLive w.slots h.tag → w.pinned < 32 → ¬ MeetsLive w.slots (fun _ => False) h → ∃ p, PlacedAs f h p ∧
        (∀ i : Slot, w.pinned ≤ i.val → slotAt w.slots i = none →
          (∀ j : Slot, w.pinned ≤ j.val → j < i → slotAt w.slots j ≠ none) →
          applyAmendment f sc w a = carried w (putSlot w.slots i (some p)) ds) ∧
        ((∀ j : Slot, w.pinned ≤ j.val → slotAt w.slots j ≠ none) →
          ∀ (old : Plate) (next : Slot), slotAt w.slots w.rotation = some old →
            (w.rotation.val ≤ w.pinned → next = 31) → (w.pinned < w.rotation.val → next.val + 1 = w.rotation.val) →
            applyAmendment f sc w a = { carried w (putSlot w.slots w.rotation (some p)) (.eviction old.tag h.tag :: ds) with
              rotation := next }))) ∧
    ∀ a b : HostFields, 1 ≤ a.height → 1 ≤ a.width → 1 ≤ b.height → 1 ≤ b.width →
      (a.meets b = true ↔ a.layer = b.layer ∧ ∃ r c, Covers a r c ∧ Covers b r c)

/-- AMEND, SHOW, CLOSE, DROP and MIX by the plate that carries the tag (02 R42 to R47, R51); h is the plate's record with the selected
fields at their new values. -/
def Obligations.TagAmendmentsActOnTheTaggedPlate : Prop :=
  ∀ (f : FieldNo) (sc : Scenes) (w : TableWork) (o : Origin) (tag : Byte) (sel : FieldSelect) (level : Nat)
    (am sh cl dr mx : Amendment),
    am = { origin := o, op := .amend tag sel } → sh = { origin := o, op := .showPlate tag } →
    cl = { origin := o, op := .close tag } → dr = { origin := o, op := .drop tag } →
    mx = { origin := o, op := .mix tag level } →
    (¬ TagLive w.slots tag → ∀ a ∈ [am, sh, cl, dr, mx], applyAmendment f sc w a = faultedBy w a .noSuchTag) ∧
    ∀ (i : Slot) (p : Plate) (h : HostFields), TableLaws w.slots → slotAt w.slots i = some p → p.tag = tag →
        AmendedTo sel p.toHostFields h →
      (p.state = .closing → applyAmendment f sc w am = faultedBy w am .closing) ∧
      (p.state ≠ .closing → MeetsLive w.slots (fun j => j = i) h →
        applyAmendment f sc w am = faultedBy w am .overlap) ∧
      (p.state ≠ .closing → ¬ MeetsLive w.slots (fun j => j = i) h →
        applyAmendment f sc w am = carried w (putSlot w.slots i (some { p with
          toHostFields := h
          fadePhase := if sel.fadeStep.isSome then 0 else p.fadePhase })) []) ∧
      (p.state ≠ .armed → applyAmendment f sc w sh = faultedBy w sh .notArmed) ∧
      (p.state = .armed →
        applyAmendment f sc w sh = carried w (putSlot w.slots i (some { nowShown p with new := true }))
          (shownRaised p.toHostFields)) ∧
      (p.state = .armed ∨ (p.state = .shown ∧ p.fadeStep = 0) → applyAmendment f sc w cl = carriedClosing w i p) ∧
      (p.state = .shown → p.fadeStep ≠ 0 →
        applyAmendment f sc w cl = carried w (putSlot w.slots i (some { nowClosing p with new := true })) []) ∧
      (p.state = .closing → applyAmendment f sc w cl = carried w w.slots []) ∧
      applyAmendment f sc w dr = carriedClosing w i p ∧
      (p.state = .closing → applyAmendment f sc w mx = faultedBy w mx .closing) ∧
      (p.state ≠ .closing →
        applyAmendment f sc w mx = carried w (putSlot w.slots i (some { p with mixTarget := level })) [])

/-- The slot holds an unpinned plate of the group (01 R11; 02 R49). -/
def MemberAt (w : TableWork) (g : Nat) (i : Slot) (p : Plate) : Prop :=
  w.pinned ≤ i.val ∧ slotAt w.slots i = some p ∧ p.group = g

/-- GROUP CLOSE, GROUP MOVE and SET PINNED (01 R16; 02 R48, R49): what becomes of each slot, and what is counted. -/
def Obligations.GroupAmendmentsReachUnpinnedMembers : Prop :=
  ∀ (f : FieldNo) (sc : Scenes) (w : TableWork) (o : Origin) (g : Nat),
    (∃ (ts : Slots) (freed : List Slot),
      applyAmendment f sc w { origin := o, op := .groupClose g } =
        { w with slots := ts, applied := w.applied + 1, closings := w.closings + freed.length
                 notices := w.notices ++ freed.flatMap fun i =>
                   ((slotAt w.slots i).map fun p => closedRaised p.toHostFields).getD [] } ∧
      freed.Pairwise (fun i j => i < j) ∧
      (∀ i, i ∈ freed ↔ ∃ p, MemberAt w g i p ∧ (p.state = .armed ∨ (p.state = .shown ∧ p.fadeStep = 0))) ∧
      ∀ i : Slot,
        (i ∈ freed → slotAt ts i = none) ∧
        (∀ p, MemberAt w g i p → p.state = .shown → p.fadeStep ≠ 0 →
          slotAt ts i = some { nowClosing p with new := true }) ∧
        ((∀ p, MemberAt w g i p → p.state = .closing) → slotAt ts i = slotAt w.slots i)) ∧
    (∀ (r c : Int) (a : Amendment), a = { origin := o, op := .groupMove g r c } →
      ∀ range overlap : Prop,
        (range ↔ ∃ i p, MemberAt w g i p ∧
          ¬ (-1024 ≤ p.top + r ∧ p.top + r ≤ 2047 ∧ -1024 ≤ p.left + c ∧ p.left + c ≤ 2047)) →
        (overlap ↔ ∃ i p, MemberAt w g i p ∧
          MeetsLive w.slots (fun j => ∃ q, MemberAt w g j q)
            { p.toHostFields with top := p.top + r, left := p.left + c }) →
        (range → applyAmendment f sc w a = faultedBy w a .range) ∧
        (¬ range → overlap → applyAmendment f sc w a = faultedBy w a .overlap) ∧
        (¬ range → ¬ overlap → ∃ ts : Slots, applyAmendment f sc w a = carried w ts [] ∧
          ∀ i : Slot,
            (∀ p, MemberAt w g i p → slotAt ts i = some { p with top := p.top + r, left := p.left + c }) ∧
            ((∀ p, ¬ MemberAt w g i p) → slotAt ts i = slotAt w.slots i))) ∧
    ∀ p : Nat, applyAmendment f sc w { origin := o, op := .setPinned p } =
      { w with pinned := p, rotation := 31, pinnedSet := true, applied := w.applied + 1 }

/-- RECALL by its checks in order, and the installation of the images from slot P on (05 R112 to R116). -/
def Obligations.RecallInstallsTheScene : Prop :=
  ∀ (f : FieldNo) (sc : Scenes) (w : TableWork) (o : Origin) (n : SceneNo) (a : Amendment) (conflict : Prop),
    a = { origin := o, op := .recall n } →
    (conflict ↔ ∃ m ∈ (sc.get n).images, ∃ i p, i.val < w.pinned ∧ slotAt w.slots i = some p ∧
      (p.tag = m.tag ∨ p.toHostFields.meets m.toHostFields = true)) →
    ((sc.get n).valid = false → applyAmendment f sc w a = faultedBy w a .sceneEmpty) ∧
    ((sc.get n).valid = true → 32 - w.pinned < (sc.get n).images.length →
      applyAmendment f sc w a = faultedBy w a .sceneTooLarge) ∧
    ((sc.get n).valid = true → (sc.get n).images.length ≤ 32 - w.pinned → conflict →
      applyAmendment f sc w a = faultedBy w a .sceneConflict) ∧
    ((sc.get n).valid = true → (sc.get n).images.length ≤ 32 - w.pinned → ¬ conflict →
      ∃ ts : Slots,
        applyAmendment f sc w a = carried w ts
          ((sc.get n).images.flatMap fun m => if m.shown then shownRaised m.toHostFields else []) ∧
        ∀ i : Slot,
          (i.val < w.pinned → slotAt ts i = slotAt w.slots i) ∧
          (∀ m, w.pinned ≤ i.val → (sc.get n).images[i.val - w.pinned]? = some m →
            slotAt ts i = some { toHostFields := m.toHostFields, fadePhase := 0, held := false, new := true
                                 state := if m.shown then .shown else .armed, mix := if m.shown then m.mixTarget else 0 }) ∧
          (w.pinned ≤ i.val → (sc.get n).images[i.val - w.pinned]? = none → slotAt ts i = none))

/-! ## The advance -/

/-- The advance of one slot (02 R52 to R56): the start step, the lifetime, the fade of a SHOWN and of a CLOSING plate, and the motion step
that follows. A fade step above 0 moves the current mix by at most one level. -/
def Obligations.AdvanceStartsCountsAndFades : Prop :=
  (∀ (f : FieldNo) (w : TableWork) (i : Slot), slotAt w.slots i = none → advanceSlot f w i = w) ∧
  (∀ (w : TableWork) (i : Slot) (r : AdvanceResult), w.take i r = { w with
    slots := putSlot w.slots i r.plate, notices := w.notices ++ r.notices
    closings := w.closings + (if r.plate = none then 1 else 0) }) ∧
  (∀ (ts : Slots) (i j : Slot) (v : Option Plate), slotAt (putSlot ts i v) j = if j = i then v else slotAt ts j) ∧
  ∀ (f : FieldNo) (w : TableWork) (i : Slot) (p : Plate), slotAt w.slots i = some p →
    (p.new = true → advanceSlot f w i = w) ∧
    (p.new = false →
      (p.state = .armed → ∀ g, p.start = .atField g → (f - g).toNat < 2147483648 →
        advanceSlot f w i = w.take i { plate := some (nowShown p), notices := shownRaised p.toHostFields }) ∧
      (p.state = .armed → (∀ g, p.start = .atField g → ¬ (f - g).toNat < 2147483648) →
        advanceSlot f w i = w.take i { plate := some p, notices := [] }) ∧
      (p.state = .shown → p.lifetime = 1 → p.fadeStep = 0 →
        advanceSlot f w i = w.take i { plate := none, notices := closedRaised p.toHostFields }) ∧
      (∀ q, p.state = .shown → p.lifetime ≠ 1 → q = { p with lifetime := p.lifetime - 1 } →
        (q.mix = q.mixTarget → advanceSlot f w i = w.take i (motionStep w.slots i { q with fadePhase := 0 })) ∧
        (q.mix ≠ q.mixTarget → q.fadeStep = 0 →
          advanceSlot f w i = w.take i (motionStep w.slots i { q with mix := q.mixTarget })) ∧
        (q.mix ≠ q.mixTarget → q.fadePhase + 1 < q.fadeStep →
          advanceSlot f w i = w.take i (motionStep w.slots i { q with fadePhase := q.fadePhase + 1 })) ∧
        (q.mix < q.mixTarget → q.fadeStep ≠ 0 → q.fadeStep ≤ q.fadePhase + 1 →
          advanceSlot f w i = w.take i (motionStep w.slots i { q with mix := q.mix + 1, fadePhase := 0 })) ∧
        (q.mixTarget < q.mix → q.fadeStep ≠ 0 → q.fadeStep ≤ q.fadePhase + 1 →
          advanceSlot f w i = w.take i (motionStep w.slots i { q with mix := q.mix - 1, fadePhase := 0 }))) ∧
      (∀ q, (p.state = .closing ∧ q = p) ∨
          (p.state = .shown ∧ p.lifetime = 1 ∧ p.fadeStep ≠ 0 ∧ q = nowClosing { p with lifetime := 0 }) →
        (q.mix = 0 → advanceSlot f w i = w.take i { plate := none, notices := closedRaised q.toHostFields }) ∧
        (q.mix ≠ 0 → q.fadePhase + 1 < q.fadeStep →
          advanceSlot f w i = w.take i (motionStep w.slots i { q with fadePhase := q.fadePhase + 1 })) ∧
        (q.mix = 1 → q.fadeStep ≤ q.fadePhase + 1 →
          advanceSlot f w i = w.take i { plate := none, notices := closedRaised q.toHostFields }) ∧
        (1 < q.mix → q.fadeStep ≤ q.fadePhase + 1 →
          advanceSlot f w i = w.take i (motionStep w.slots i { q with mix := q.mix - 1, fadePhase := 0 }))) ∧
      (p.InRange → p.fadeStep ≠ 0 → ∀ q, slotAt (advanceSlot f w i).slots i = some q → q.mix ≤ p.mix + 1 ∧ p.mix ≤ q.mix + 1))

/-- The motion step (02 R57 to R59): still, held by the lowest slot that the candidate meets, or moved, stopped and closed at the stop. -/
def Obligations.MotionMovesHoldsOrStops : Prop :=
  ∀ (ts : Slots) (i : Slot) (p : Plate),
    (p.rowRate = 0 → p.colRate = 0 → motionStep ts i p = { plate := some { p with held := false }, notices := [] }) ∧
    ∀ (top left rowRate colRate : Int) (rowStop colStop : Bool) (ds : List Detail) (m : Plate),
      ¬ (p.rowRate = 0 ∧ p.colRate = 0) →
      AxisGoes p.top p.rowRate p.stopRow top rowRate rowStop → AxisGoes p.left p.colRate p.stopCol left colRate colStop →
      ds = (if (rowStop || colStop) && p.notify.stopped then [.plateStopped p.tag] else []) →
      m = { p with top := top, left := left, rowRate := rowRate, colRate := colRate, held := false } →
      (∀ j q, j ≠ i → slotAt ts j = some q → q.toHostFields.meets { p.toHostFields with top := top, left := left } = true →
        ¬ MeetsLive ts (fun k => k = i ∨ j ≤ k) { p.toHostFields with top := top, left := left } →
        motionStep ts i p = { plate := some { p with held := true }
                              notices := if p.held then [] else [.motionHeld p.tag q.tag] }) ∧
      (¬ MeetsLive ts (fun k => k = i) { p.toHostFields with top := top, left := left } →
        (p.closeAtStop = true → p.state = .shown → rowRate = 0 → colRate = 0 → p.fadeStep = 0 →
          motionStep ts i p = { plate := none, notices := ds ++ closedRaised p.toHostFields }) ∧
        (p.closeAtStop = true → p.state = .shown → rowRate = 0 → colRate = 0 → p.fadeStep ≠ 0 →
          motionStep ts i p = { plate := some (nowClosing m), notices := ds }) ∧
        (¬ (p.closeAtStop = true ∧ p.state = .shown ∧ rowRate = 0 ∧ colRate = 0) →
          motionStep ts i p = { plate := some m, notices := ds }))

/-! ## Lines and keying -/

/-- LINE START (03 R68, R75; 08 R157): at the next line, or the line the raster stands at (log 7), the width comes into force, the line
counts toward the segment count, the span list and the fallback decision are made, SPAN OVERFLOW is raised for more than 8 candidates
(03 R71); at the end of a field the boundary comes first; a MARK A event (log 8, TriggersActByState) and a segment end (log 12) that
wait come before. The raster's time and position: a line ends at the first sixteenth at which the position has run its length at the
offset in force (08 R156, R159; log 5), the next begins there with what is over, and the output's position at a moment is the line and
the whole sixteenths run in it (08 R158; log 6). The picture rows of both standards. -/
def Obligations.LineStartKeysTheLine : Prop :=
  (∀ (s u : State) (line : Nat) (row : Option Nat) (e pos posTime : Int), s.raster.segDue = false →
    s.raster.timeoutNow = false → e = s.raster.lineEnd →
    (s.raster.startDue = true ∧ line = s.raster.line ∧ pos = s.raster.pos ∧ posTime = s.raster.posTime) ∨
      (s.raster.startDue = false ∧ s.raster.atFieldEnd = false ∧ line = s.raster.line + 1 ∧ posTime = e ∧
        pos = s.raster.pos + (e - s.raster.posTime) * (1048576 + s.raster.offset) - s.raster.line16 * 1048576) →
    row = rowOfLine s.raster.std line → u = nextLineStart s →
    (s.seq.marksDue = 0 → exec .lineStart s = .next u) ∧
      u = { s with raster := u.raster, keyer := u.keyer, att := u.att } ∧
      u.raster = { s.raster with
        line := line, startDue := false, width := s.raster.params.activeWidth, pos := pos
        posTime := posTime }.countSegment s.rlc.lock ∧
      u.keyer = { s.keyer with row := row, spans := u.keyer.spans, decision := u.keyer.decision } ∧
      (row = none → u.keyer.spans = [] ∧ u.att = s.att) ∧
      (∀ r, row = some r → u.keyer.spans = spanList s.raster.params.activeWidth r s.keyer.visible ∧
        (rowOverflows s.raster.params.activeWidth r s.keyer.visible = true →
          u.att = s.att.occur (.spanOverflow r s.keyer.fieldNumber)) ∧
        (rowOverflows s.raster.params.activeWidth r s.keyer.visible = false → u.att = s.att)) ∧
      (s.rlc.lock = .frameLock ∨ s.rlc.lock = .flywheel ∨ s.keyer.fallback = .keep → u.keyer.decision = .normal) ∧
      (s.rlc.lock = .search ∨ s.rlc.lock = .lineLock →
        (s.keyer.fallback = .cut → u.keyer.decision = .zero) ∧ (s.keyer.fallback = .full → u.keyer.decision = .full))) ∧
  (∀ s u : State, s.seq.marksDue = 0 → s.raster.segDue = false → s.raster.timeoutNow = false → LastFieldLine s.raster →
    exec .fieldBoundary s = .next u → exec .lineStart s = .next (nextLineStart u)) ∧
  (∀ s : State, s.seq.marksDue = 0 → exec .lineStart s = .next (nextLineStart (settleSegments s))) ∧
  (∀ (r : Raster) (e : Time), r.offset.natAbs ≤ 4095 →
    (e = r.lineEnd ↔
      r.line16 * 1048576 ≤ r.pos + (e - r.posTime) * (1048576 + r.offset) ∧
        r.pos + (e - 1 - r.posTime) * (1048576 + r.offset) < r.line16 * 1048576)) ∧
  (∀ (r : Raster) (t x : Int), RasterRanges r → x = r.pos + (t - r.posTime) * (1048576 + r.offset) →
    (0 ≤ x → x < r.line16 * 1048576 → r.outAt t = { line := r.line, p := x / 1048576 }) ∧
    (r.outAt t).line * r.line16 + (r.outAt t).p = (r.line * r.line16 + x / 1048576) % r.frame16 ∧
    0 ≤ (r.outAt t).p ∧ (r.outAt t).p < r.line16) ∧
  ∀ line : Nat,
    (23 ≤ line → line ≤ 310 → rowOfLine .s625 line = some (2 * (line - 23))) ∧
    (336 ≤ line → line ≤ 623 → rowOfLine .s625 line = some (2 * (line - 336) + 1)) ∧
    (line < 23 ∨ (310 < line ∧ line < 336) ∨ line = 624 → rowOfLine .s625 line = none) ∧
    (20 ≤ line → line ≤ 259 → rowOfLine .s525 line = some (2 * (line - 20))) ∧
    (283 ≤ line → line ≤ 522 → rowOfLine .s525 line = some (2 * (line - 283) + 1)) ∧
    (line < 20 ∨ (259 < line ∧ line < 283) ∨ (522 < line ∧ line < 525) → rowOfLine .s525 line = none)

/-- The span list of a row (03 R69 to R71): candidates alone, at most 8, in the order of R70, every candidate kept unless 8 are preferred
to it; the row overflows when the candidates are more than 8. -/
def Obligations.SpanListKeepsEightInOrder : Prop :=
  ∀ (width r : Nat) (vs : List VisPlate) (l : List Span), vs.Pairwise (fun v w => v.slot < w.slot) →
    l = spanList width r vs →
    l.length ≤ 8 ∧ l.Nodup ∧ (∀ a ∈ l, ∃ v ∈ vs, CandidateFor width r v a) ∧
    l.Pairwise (fun a b => a.leftCol < b.leftCol ∨ (a.leftCol = b.leftCol ∧ b.layer ≤ a.layer)) ∧
    (∀ v ∈ vs, ∀ a, CandidateFor width r v a → a ∈ l ∨ (l.length = 8 ∧ ∀ b ∈ l, KeptOver b a)) ∧
    (rowOverflows width r vs = true ↔
      ∃ cs : List Span, 8 < cs.length ∧ cs.Nodup ∧ ∀ a ∈ cs, ∃ v ∈ vs, CandidateFor width r v a)

/-- KEY at a pixel (03 R72 to R75): 0 off the picture, the fallback level, or the contribution of the highest layer that gives one; 0
to 16 in all. TALLY is High exactly while the latched visible set holds a plate (03 R65). -/
def Obligations.KeyIsTheHighestContribution : Prop :=
  (∀ (live : Vector Nat 16) (i : Fin 16) (sp : Span),
    (sp.keyMode = .box → contribution live i sp = sp.mix) ∧
    (sp.keyMode = .index → sp.transIndex = some i.val → contribution live i sp = 0) ∧
    (sp.keyMode = .index → sp.transIndex ≠ some i.val → contribution live i sp = sp.mix * live.get i / 4)) ∧
  (∀ s : State, s.tally = true ↔ s.keyer.visible ≠ []) ∧
  ∀ (s : State) (c : Int) (i : Fin 16),
    (s.keyer.row = none ∨ c < 0 ∨ (s.raster.width : Int) ≤ c → s.keyAt c i = 0) ∧
    (∀ r, s.keyer.row = some r → 0 ≤ c → c < s.raster.width →
      (s.keyer.decision = .zero → s.keyAt c i = 0) ∧
      (s.keyer.decision = .full → s.keyAt c i = 16) ∧
      (s.keyer.decision = .normal →
        ((∀ sp ∈ s.keyer.spans, sp.leftCol ≤ c → c ≤ sp.rightCol → contribution s.keyer.live i sp = 0) → s.keyAt c i = 0) ∧
        ∀ sp ∈ s.keyer.spans, sp.leftCol ≤ c → c ≤ sp.rightCol → 0 < contribution s.keyer.live i sp → sp.layer ≤ 3 →
          (∀ sq ∈ s.keyer.spans, sq ≠ sp → sq.leftCol ≤ c → c ≤ sq.rightCol → 0 < contribution s.keyer.live i sq →
            sq.layer < sp.layer) →
          s.keyAt c i = contribution s.keyer.live i sp)) ∧
    ((∀ sp ∈ s.keyer.spans, sp.mix ≤ 16) → (∀ j, s.keyer.live.get j ≤ 4) → s.keyAt c i ≤ 16)

/-! ## The offset and the slew -/

/-- SEGMENT END by the table of 08 R163, HOLD DECAY SEGMENT (08 R160), the counting of segments at line starts, and SLEW TIMEOUT
(08 R165), a hard align made as the next line would start (08 R166). The model's choices: the ramp-down distance is compared exactly
(log 25); a ramp restarted by an error of 0 takes direction -1 (log 24); what is due waits in the state (log 12, log 13), and a command
that finds nothing due changes nothing (log 2). -/
def Obligations.SegmentsAndTimeoutsMoveTheSlew : Prop :=
  (∀ (s : State) (w : Ramp) (o o' zero : Int) (d : Nat) (out : Ramp → Int → State) (opposed : Prop),
    s.raster.slew = .slew w → s.raster.segDue = true → o = s.raster.offset → 1 ≤ s.raster.params.rampStep →
    out = (fun w' x => { s with raster := { s.raster with slew := .slew w', offset := x, segDue := false } }) →
    (opposed ↔ (w.gain = true ∧ w.err < 0) ∨ (w.gain = false ∧ 0 < w.err)) →
    StepsToward s.raster.params.rampStep 0 o zero → RampDownDistance s.raster.params s.raster.std o d →
    (opposed ∨ (w.stage = .down ∧ o = 0) →
      StepsToward s.raster.params.rampStep (if 0 < w.err then s.raster.params.pullLimit else -s.raster.params.pullLimit) o o' →
      exec .segmentEnd s = .next (out { stage := .up, gain := decide (0 < w.err), err := w.err } o')) ∧
    (¬ opposed → w.stage = .down → o ≠ 0 → exec .segmentEnd s = .next (out w zero)) ∧
    (¬ opposed → w.stage ≠ .down →
      ((w.gain = true ∧ 0 < o) ∨ (w.gain = false ∧ o < 0)) → w.err.natAbs * 65536 ≤ d →
      exec .segmentEnd s = .next (out { w with stage := .down } zero)) ∧
    (¬ opposed → ¬ (((w.gain = true ∧ 0 < o) ∨ (w.gain = false ∧ o < 0)) ∧ w.err.natAbs * 65536 ≤ d) →
      (w.stage = .cruise → exec .segmentEnd s = .next (out w o)) ∧
      ∀ aim : Int, aim = (if w.gain then (s.raster.params.pullLimit : Int) else -s.raster.params.pullLimit) →
        StepsToward s.raster.params.rampStep aim o o' → w.stage = .up →
        exec .segmentEnd s = .next (out (if o' = aim then { w with stage := .cruise } else w) o'))) ∧
  (∀ (s : State) (zero : Int), s.raster.slew = .hold → s.raster.segDue = true →
    s.rlc.lock = .search ∨ s.rlc.lock = .lineLock → StepsToward s.raster.params.rampStep 0 s.raster.offset zero →
    exec .holdDecaySegment s = .next { s with raster := { s.raster with offset := zero, segDue := false } }) ∧
  (∀ s : State, s.raster.segDue = false → exec .segmentEnd s = .next s ∧ exec .holdDecaySegment s = .next s) ∧
  (∀ (r : Raster) (lock : LockState) (counts : Prop),
    (counts ↔ (∃ w, r.slew = .slew w) ∨ (r.slew = .hold ∧ (lock = .search ∨ lock = .lineLock))) →
    (¬ counts → r.countSegment lock = r) ∧
    (counts → r.segLines + 1 < r.params.segmentLength → r.countSegment lock = { r with segLines := r.segLines + 1 }) ∧
    (counts → r.params.segmentLength ≤ r.segLines + 1 → r.countSegment lock = { r with segLines := 0, segDue := true })) ∧
  (∀ r : Raster,
    ((∃ w, r.slew = .slew w) → r.countTimer = { r with
      timer := min (r.timer + 1) 65535
      timeoutDue := decide (r.params.slewTimeout ≠ 0 ∧ r.params.slewTimeout ≤ min (r.timer + 1) 65535) }) ∧
    ((∀ w, r.slew ≠ .slew w) → r.countTimer = r)) ∧
  ∀ (s : State) (due : Prop),
    (due ↔ s.raster.timeoutDue = true ∧ s.raster.startDue = false ∧ fieldLine s.raster.std s.raster.line = 0 ∧
      ∃ w, s.raster.slew = .slew w) →
    (¬ due → exec .slewTimeout s = .next s) ∧
    (due → (∃ u, exec .slewTimeout s = .next u ∧ Aligned s u .slewTimeout s.raster.std s.raster.lineEnd) ∧
      (s.seq.marksDue = 0 → s.raster.segDue = false → exec .lineStart s = exec .slewTimeout s))

/-! ## The reference -/

/-- LINE SYNC (07 R131, R137, R138, R146): the other input is disregarded; spacings are judged in SEARCH and FLYWHEEL; in LINE LOCK and
FRAME LOCK the first sync in the predicted line's window is taken, at its arrival (log 23), and any other only remembered. -/
def Obligations.LineSyncsQualifyAndHoldTheLock : Prop :=
  ∀ (s : State) (x : Input) (t : Time) (w : Int), w = (s.rlc.inForce.lineWindow : Int) * 16 →
    (x ≠ s.rlc.source → exec (.lineSync x t) s = .next s) ∧
    (x = s.rlc.source → s.rlc.lock = .search ∨ s.rlc.lock = .flywheel →
      (s.rlc.lastSync = none →
        exec (.lineSync x t) s = .next { s with rlc := { s.rlc with lastSync := some t } }) ∧
      ∀ (t0 : Time) (good : Prop) (c : RefLock), s.rlc.lastSync = some t0 →
        (s.rlc.lock = .search → (good ↔ ∃ std, ¬ Forbids s.rlc.setting std ∧ NearNominal s.raster.params w std (t - t0))) →
        (s.rlc.lock = .flywheel → (good ↔ ∃ std, s.rlc.standard = some std ∧ NearNominal s.raster.params w std (t - t0))) →
        c = { s.rlc with lastSync := some t, goodCount := s.rlc.goodCount + 1, period := t - t0, goodTime := t
                         sinceGood := 0, goodOut := s.raster.outAt t } →
        (¬ good → exec (.lineSync x t) s = .next { s with
          rlc := { s.rlc with lastSync := some t, goodCount := 0, waiting := false } }) ∧
        (good → s.rlc.goodCount + 1 < s.rlc.inForce.qualify → exec (.lineSync x t) s = .next { s with rlc := c }) ∧
        (good → s.rlc.inForce.qualify ≤ s.rlc.goodCount + 1 →
          (s.rlc.lock = .flywheel →
            exec (.lineSync x t) s = .next { s with rlc := { c with waiting := true } }) ∧
          (s.rlc.lock = .search →
            exec (.lineSync x t) s = .next { s with
              rlc := { c with
                lock := .lineLock, fields := 0, missCount := 0, prediction := some (t + (t - t0)), entered := false
                windowSync := none, lineTime := t, lineGood := true, lineOut := some (s.raster.outAt t), pair := none }
              raster := inHold s.raster
              att := s.att.occur (.lockChange .search .lineLock) }))) ∧
    (∀ p, x = s.rlc.source → s.rlc.lock = .lineLock ∨ s.rlc.lock = .frameLock → s.rlc.prediction = some p →
      (¬ (p - w ≤ t ∧ t ≤ p + w) ∨ (s.rlc.entered = true ∧ s.rlc.windowSync ≠ none) →
        exec (.lineSync x t) s = .next { s with rlc := { s.rlc with lastSync := some t } }) ∧
      (p - w ≤ t → t ≤ p + w → (s.rlc.entered = true → s.rlc.windowSync = none) →
        ∃ u, exec (.lineSync x t) s = .next u ∧ u = { s with rlc := u.rlc, raster := u.raster } ∧
          u.rlc.lastSync = some t ∧ u.rlc.entered = true ∧ u.rlc.windowSync = some t ∧ u.rlc.goodTime = t ∧
          u.rlc.sinceGood = 0 ∧ u.rlc.lock = s.rlc.lock ∧ u.rlc.prediction = some p ∧
          (s.rlc.lock = .lineLock → u.raster = s.raster)))

/-- The line now current belongs to the head-switch zone of its field (07 R143). -/
def InZone (c : RefLock) : Prop :=
  c.lock = .frameLock ∧ ∃ std f, c.standard = some std ∧ c.field = some f ∧ expectedLines std f.id ≤ f.count + c.inForce.zone

/-- The phase error (07 R148), measured on a good FRAME LOCK line outside the zone when the standards are equal: E is (n - m) L 16 - p
reduced by whole frames above -F/2 to F/2, recorded as lines and sixteenths. TRACK corrects the offset within the capture window and
goes to SLEW beyond it (08 R162), where the position is stated again at the moment of the correction (log 6); SLEW is left for TRACK
within it (08 R164). A line sync that enters its own line first counts the line (07 R138, R141; log 23). -/
def Obligations.PhaseErrorsSteerTheOutput : Prop :=
  (∀ (s : State) (t p : Time) (w : Int), s.rlc.lock = .lineLock ∨ s.rlc.lock = .frameLock → s.rlc.prediction = some p →
    w = (s.rlc.inForce.lineWindow : Int) * 16 → p - w ≤ t → t ≤ p + w → s.rlc.entered = false →
      exec (.lineSync s.rlc.source t) s = exec (.lineSync s.rlc.source t) { s with rlc := s.rlc.enterLine }) ∧
  ∀ (s : State) (t p : Time) (w : Int) (std : Standard) (f : RefField), RasterRanges s.raster →
    s.rlc.lock = .frameLock → s.rlc.prediction = some p → w = (s.rlc.inForce.lineWindow : Int) * 16 → p - w ≤ t →
    t ≤ p + w → s.rlc.entered = true → s.rlc.windowSync = none → s.rlc.standard = some std → s.rlc.field = some f →
    (std ≠ s.raster.std ∨ InZone s.rlc →
      ∃ u, exec (.lineSync s.rlc.source t) s = .next u ∧ u.raster = s.raster ∧ u.rlc.phaseLines = s.rlc.phaseLines ∧
        u.rlc.phaseSixteenths = s.rlc.phaseSixteenths) ∧
    (std = s.raster.std → ¬ InZone s.rlc →
      ∃ (u : State) (e k : Int) (gain : Nat), exec (.lineSync s.rlc.source t) s = .next u ∧ gain = s.rlc.inForce.trackGain ∧
        e = ((fieldStart std f.id + f.count : Nat) - (s.raster.outAt t).line) * s.raster.line16 - (s.raster.outAt t).p +
          k * s.raster.frame16 ∧
        -s.raster.frame16 < 2 * e ∧ 2 * e ≤ s.raster.frame16 ∧
        u.rlc.phaseLines = e.tdiv s.raster.line16 ∧ u.rlc.phaseSixteenths = e.tmod s.raster.line16 ∧
        (s.raster.slew = .hold → u.raster = s.raster) ∧
        (s.raster.slew = .track → e.natAbs ≤ 16 * s.raster.params.captureWindow →
          ∃ o, u.raster = { s.raster with offset := o, pos := s.raster.posAt t, posTime := t } ∧
            o = max (-(s.raster.params.pullLimit : Int))
              (min (s.raster.offset + (e * gain).tdiv 64) s.raster.params.pullLimit)) ∧
        (s.raster.slew = .track → 16 * s.raster.params.captureWindow < e.natAbs →
          u.raster = { inHold s.raster with slew := .slew { stage := .up, gain := decide (0 < e), err := e } }) ∧
        (∀ r, s.raster.slew = .slew r →
          (e.natAbs ≤ 16 * s.raster.params.captureWindow → u.raster = { inHold s.raster with slew := .track }) ∧
          (16 * s.raster.params.captureWindow < e.natAbs →
            u.raster = { s.raster with slew := .slew { r with err := e } })))

/-- LINE_WINDOW_CLOSE decides the entered line (07 R138, R143, R144): good, missed, or the miss that reaches the limit, which enters
SEARCH from LINE LOCK and FLYWHEEL from FRAME LOCK, predicted on by the measured period. A line whose window holds no sync is entered at the close. FLYWHEEL_PREDICTED_LINE
passes a line on (07 R144). The model's choices: a nominal period that has changed predicts the next line once (log 37); a field that
ends by prediction in FRAME LOCK records its expected length (log 21); a command that is not due changes nothing (log 2). -/
def Obligations.WindowsCloseGoodOrMissed : Prop :=
  (∀ (s : State) (p : Time), s.rlc.prediction = some p → s.rlc.lock = .lineLock ∨ s.rlc.lock = .frameLock →
    (s.rlc.entered = false →
      exec .lineWindowClose s = exec .lineWindowClose { s with rlc := s.rlc.enterLine }) ∧
    (∀ t, s.rlc.entered = true → s.rlc.windowSync = some t →
      ∃ per, exec .lineWindowClose s = .next { s with rlc := { s.rlc with
          lineTime := t, lineGood := true, period := per, missCount := 0, prediction := some (t + s.rlc.nominalNext.getD per)
          nominalNext := none, entered := false, windowSync := none } } ∧
        (s.rlc.lineGood = true → ¬ InZone s.rlc → per = t - s.rlc.lineTime) ∧
        (s.rlc.lineGood = false ∨ InZone s.rlc → per = s.rlc.period)) ∧
    (∀ (c : RefLock) (limit : Prop), s.rlc.entered = true → s.rlc.windowSync = none →
      (limit ↔ ¬ InZone s.rlc ∧ s.rlc.inForce.missLimit ≤ s.rlc.missCount + 1) →
      c = { s.rlc with lineTime := p, lineGood := false, prediction := some (p + s.rlc.nominalNext.getD s.rlc.period)
                       nominalNext := none, entered := false, missCount := c.missCount } →
      (InZone s.rlc → c.missCount = s.rlc.missCount) → (¬ InZone s.rlc → c.missCount = s.rlc.missCount + 1) →
      (¬ limit → exec .lineWindowClose s = .next { s with rlc := c }) ∧
      (limit → s.rlc.lock = .lineLock →
        exec .lineWindowClose s = .next { s with
          rlc := inSearch c, raster := inHold s.raster, att := s.att.occur (.lockChange .lineLock .search) }) ∧
      (limit → s.rlc.lock = .frameLock →
        exec .lineWindowClose s = .next { s with
          rlc := { c with lock := .flywheel, fields := 0, holdover := 0, goodCount := 0, waiting := false
                          prediction := some (p + s.rlc.period) }
          raster := inHold s.raster
          att := s.att.occur (.lockChange .frameLock .flywheel) }))) ∧
  (∀ s : State, (s.rlc.lock ≠ .lineLock ∧ s.rlc.lock ≠ .frameLock) ∨ s.rlc.prediction = none →
    exec .lineWindowClose s = .next s) ∧
  (∀ (s : State) (p : Time), s.rlc.lock = .flywheel → s.rlc.prediction = some p →
    exec .flywheelPredictedLine s = .next { s with
      rlc := { s.rlc.enterLine with entered := false, lineTime := p, lineGood := false
                                    prediction := some (p + s.rlc.period) } }) ∧
  (∀ s : State, s.rlc.lock ≠ .flywheel → exec .flywheelPredictedLine s = .next s) ∧
  ∀ c : RefLock,
    c.enterLine = { c with
      entered := true, windowSync := none, lineOut := none, sinceGood := c.sinceGood + 1
      fieldLength := c.enterLine.fieldLength, field := c.enterLine.field, pair := c.pair.map (· + 1) } ∧
    ∀ std f, c.standard = some std → c.field = some f →
      (f.count + 1 < expectedLines std f.id →
        c.enterLine.field = some { f with count := f.count + 1 } ∧ c.enterLine.fieldLength = c.fieldLength) ∧
      (expectedLines std f.id ≤ f.count + 1 →
        c.enterLine.field = some { id := f.id.other, count := 0, predicted := true } ∧
          (c.lock = .frameLock → c.enterLine.fieldLength = expectedLines std f.id) ∧
          (c.lock ≠ .frameLock → c.enterLine.fieldLength = c.fieldLength))

/-- FRAME LOCK entered from s to u by a field sync of this pattern taken at t (07 R140), c being the controller at the line that the
field sync belongs to, with the entry decision of 08 R161. The phase error of the entry is measured at the line's time (07 R148):
against the output's position when the line's sync came, or, for a line without one, at its predicted time (log 19). -/
def EntersFrameLock (s u : State) (c : RefLock) (std : Standard) (pat : Pattern) (t : Time) : Prop :=
  ∀ (id : FieldId) (d : RefLock) (z : OutPos) (att : Attention), id = (match pat with | .onLine => .first | .halfLine => .second) →
    d = { c with lock := .frameLock, fields := 0, standard := some std, missCount := 0, parityCount := 0, waiting := false
                 pair := none, field := some { id := id, count := 0, predicted := false } } →
    (c.lineOut = none → z = s.raster.outAt c.currentTime) → (∀ x, c.lineOut = some x → z = x) →
    att = s.att.occur (.lockChange s.rlc.lock .frameLock) →
    (std ≠ s.raster.std → Aligned { s with rlc := d, att := att } u .standardChange std t) ∧
    (std = s.raster.std → ∃ (e k : Int) (v : State),
      e = ((fieldStart std id : Int) - z.line) * s.raster.line16 - z.p + k * s.raster.frame16 ∧
      -s.raster.frame16 < 2 * e ∧ 2 * e ≤ s.raster.frame16 ∧
      v = { s with
        rlc := { d with phaseLines := e.tdiv s.raster.line16, phaseSixteenths := e.tmod s.raster.line16 }, att := att } ∧
      (e.natAbs ≤ 16 * s.raster.params.captureWindow → u = { v with raster := { inHold s.raster with slew := .track } }) ∧
      (16 * s.raster.params.captureWindow < e.natAbs → s.raster.params.quickAlign = true → s.keyer.visible = [] →
        Aligned v u .quickAlign std t) ∧
      (16 * s.raster.params.captureWindow < e.natAbs → ¬ (s.raster.params.quickAlign = true ∧ s.keyer.visible = []) →
        u = { v with
          raster := { inHold s.raster with slew := .slew { stage := .up, gain := decide (0 < e), err := e } } }))

/-- FIELD SYNC (07 R131, R139 to R142, R146): the other input and SEARCH disregard it; LINE LOCK pairs it with the last and identifies
the standard; FRAME LOCK checks length and parity; FLYWHEEL takes one that confirms, with the line timing re-timed from the last good
line sync by whole measured periods (log 20). In LINE LOCK and FRAME LOCK an event belongs to the line that has been entered, or comes
before the next window opens; one that comes once it has opened enters the predicted line (07 R139; log 22). -/
def Obligations.FieldSyncsIdentifyCheckAndConfirm : Prop :=
  ∀ (s : State) (x : Input) (pat : Pattern) (t : Time) (id : FieldId), RasterRanges s.raster →
    id = (match pat with | .onLine => .first | .halfLine => .second) →
    (x ≠ s.rlc.source ∨ s.rlc.lock = .search ∨ (s.rlc.lock = .flywheel ∧ s.rlc.waiting = false) →
      exec (.fieldSync x pat t) s = .next s) ∧
    (∀ p, x = s.rlc.source → s.rlc.lock = .lineLock ∨ s.rlc.lock = .frameLock → s.rlc.entered = false →
      s.rlc.prediction = some p → p - (s.rlc.inForce.lineWindow : Int) * 16 ≤ t →
      exec (.fieldSync x pat t) s = exec (.fieldSync x pat t) { s with rlc := s.rlc.enterLine }) ∧
    (x = s.rlc.source → s.rlc.lock = .lineLock →
      s.rlc.entered = true ∨ (∃ p, s.rlc.prediction = some p ∧ t < p - (s.rlc.inForce.lineWindow : Int) * 16) →
      (s.rlc.pair = none ∨ (∃ n, s.rlc.pair = some n ∧ n ∉ [262, 263, 312, 313]) →
        exec (.fieldSync x pat t) s = .next { s with rlc := { s.rlc with pair := some 0 } }) ∧
      ∀ n std, s.rlc.pair = some n → (n ∈ [312, 313] ∧ std = .s625) ∨ (n ∈ [262, 263] ∧ std = .s525) →
        (Forbids s.rlc.setting std →
          exec (.fieldSync x pat t) s = .next { s with
            rlc := { s.rlc with pair := some 0, standard := some std, faults := withMismatch s.rlc.faults }
            att := mismatchRaised s.rlc.faults s.att }) ∧
        (¬ Forbids s.rlc.setting std →
          ∃ u, exec (.fieldSync x pat t) s = .next u ∧ EntersFrameLock s u s.rlc std pat t)) ∧
    (x = s.rlc.source → s.rlc.lock = .frameLock →
      s.rlc.entered = true ∨ (∃ p, s.rlc.prediction = some p ∧ t < p - (s.rlc.inForce.lineWindow : Int) * 16) →
      ∀ std f g len n (k : SyncFaults), s.rlc.standard = some std → s.rlc.field = some f →
        (f.predicted = true ∧ f.count = 0 ∧ g = { f with predicted := false } ∧ len = s.rlc.fieldLength ∧
            k = { mismatch := false, longField := false, shortField := false, parity := decide (id ≠ g.id), holdover := false } ∨
          f.predicted = true ∧ 1 ≤ f.count ∧ f.count ≤ 7 ∧ g = { id := f.id, count := 0, predicted := false } ∧
            len = expectedLines std f.id.other + f.count ∧
            k = { mismatch := false, longField := true, shortField := false, parity := decide (id ≠ g.id), holdover := false } ∨
          (f.predicted = false ∨ 8 ≤ f.count) ∧ g = { id := f.id.other, count := 0, predicted := false } ∧ len = f.count ∧
            k = { mismatch := false, longField := false, shortField := true, parity := decide (id ≠ g.id), holdover := false }) →
        n = (if id = g.id then 0 else s.rlc.parityCount + 1) →
        ∃ u, exec (.fieldSync x pat t) s = .next u ∧ u = { s with rlc := u.rlc, raster := u.raster, att := u.att } ∧
          u.rlc.faults = s.rlc.faults.union k ∧ u.rlc.fieldLength = len ∧ u.rlc.parityCount = n ∧
          u.rlc.prediction = s.rlc.prediction ∧ u.rlc.standard = some std ∧
          (s.att.syncFault.pending = false → (s.rlc.faults.newIn k).isEmpty = false →
            u.att.syncFault.latch = some (.syncFault (s.rlc.faults.newIn k))) ∧
          (n < 2 → u.rlc.lock = .frameLock ∧ u.rlc.field = some g ∧ u.raster = s.raster ∧
            u.att.lockChange = s.att.lockChange) ∧
          (2 ≤ n → u.rlc.lock = .lineLock ∧ u.rlc.field = none ∧ u.rlc.pair = some 0 ∧ u.raster = inHold s.raster ∧
            (s.att.lockChange.pending = false → u.att.lockChange.latch = some (.lockChange .frameLock .lineLock)))) ∧
    ∀ (std : Standard) (k : Int) (c : RefLock), x = s.rlc.source → s.rlc.lock = .flywheel → s.rlc.waiting = true →
      s.rlc.standard = some std → k = (t - s.rlc.goodTime) / s.rlc.period →
      c = { s.rlc with
        lineTime := s.rlc.goodTime + k * s.rlc.period, lineGood := decide (k = 0)
        prediction := some (s.rlc.goodTime + (k + 1) * s.rlc.period), entered := false, windowSync := none, sinceGood := k.toNat
        lineOut := if k = 0 then some s.rlc.goodOut else none } →
      (¬ Forbids s.rlc.setting std → ∃ u, exec (.fieldSync x pat t) s = .next u ∧ EntersFrameLock s u c std pat t) ∧
      (Forbids s.rlc.setting std →
        exec (.fieldSync x pat t) s = .next { s with
          rlc := { c with lock := .lineLock, fields := 0, faults := withMismatch s.rlc.faults, missCount := 0, parityCount := 0
                          waiting := false, pair := some 0, field := none }
          raster := inHold s.raster
          att := (mismatchRaised s.rlc.faults s.att).occur (.lockChange .flywheel .lineLock) })

/-! ## Invariants -/

/-- The invariants hold after power-on. -/
def Obligations.InvariantsHoldAtReset : Prop :=
  TableInvariant State.reset ∧ RangeInvariant State.reset ∧ SizeInvariant State.reset ∧ CountingInvariant State.reset ∧
    TimingInvariant State.reset ∧ AttentionInvariant State.reset

/-- Every step keeps the laws of the table and of the scenes, and leaves every new flag clear (01 R9, R12; 02 R40; 05 R105). -/
def Obligations.StepsKeepTheTableLaws : Prop :=
  ∀ s t, TableInvariant s → Sys2Proof.Machine.step s = .next t → TableInvariant t

/-- Every step keeps every plate, image, queued amendment and cue in range, and the rotation index between P and 31 (01 R4, R17). -/
def Obligations.StepsKeepTheRanges : Prop :=
  ∀ s t, RangeInvariant s → Sys2Proof.Machine.step s = .next t → RangeInvariant t

/-- Every step keeps the FIFOs, the queue and the LIST within their sizes, and every latch with its own detail (09 R174, R179; 02 R32;
10 R188). -/
def Obligations.StepsKeepTheSizes : Prop :=
  ∀ s t, SizeInvariant s → AttentionInvariant s → Sys2Proof.Machine.step s = .next t → SizeInvariant t ∧ AttentionInvariant t

/-- Every step keeps the counts of the sequencer and of the Field Clock as their tables say (04 R85; 06 R122, R125). -/
def Obligations.StepsKeepTheCounts : Prop :=
  ∀ s t, CountingInvariant s → Sys2Proof.Machine.step s = .next t → CountingInvariant t

/-- Every step keeps the nine parameters and the width in range, the raster on a line of its frame, the offset within the pull limit,
HOLD exactly outside FRAME LOCK, and what each lock state knows (08 R156, R159, R169; 07 R138 to R147). That RASTER RESET is High
between commands is the model's reading, since a pulse is part of its command (log 17). -/
def Obligations.StepsKeepTheTiming : Prop :=
  ∀ s t, TimingInvariant s → Sys2Proof.Machine.step s = .next t → TimingInvariant t
end

