-- ==== Sys2Proof/Laws/Slots.lean ====
section
/-! SUPPORT. Reading and writing slots, finding plates by tag and by position, and the geometry of rectangles. -/

namespace Sys2Proof.Machine

theorem mem_allSlots (i : Slot) : i ∈ allSlots := List.mem_finRange i

theorem slotAt_putSlot (ts : Slots) (i j : Slot) (v : Option Plate) :
    slotAt (putSlot ts i v) j = if j = i then v else slotAt ts j := by
  unfold slotAt putSlot
  rw [Vector.get_eq_getElem, Vector.getElem_set]
  by_cases h : j = i
  · subst h; simp
  · have : i.val ≠ j.val := fun e => h (Fin.ext e.symm)
    rw [if_neg this, if_neg h]; rfl

@[simp] theorem slotAt_putSlot_same (ts : Slots) (i : Slot) (v : Option Plate) : slotAt (putSlot ts i v) i = v := by
  rw [slotAt_putSlot, if_pos rfl]

theorem slotAt_putSlot_other (ts : Slots) {i j : Slot} (v : Option Plate) (h : j ≠ i) :
    slotAt (putSlot ts i v) j = slotAt ts j := by
  rw [slotAt_putSlot, if_neg h]

@[simp] theorem slotAt_mapSlots (f : Slot → Option Plate → Option Plate) (ts : Slots) (i : Slot) :
    slotAt (mapSlots f ts) i = f i (slotAt ts i) := by
  unfold slotAt mapSlots
  simp [Vector.get, allSlots, slotAt]
  rfl

/-- Two tables with the same slots are one. -/
theorem slots_ext {ts us : Slots} (h : ∀ i, slotAt ts i = slotAt us i) : ts = us := by
  apply Vector.ext
  intro i hi
  exact h ⟨i, hi⟩

/-- A tag is found exactly when a live plate carries it (01 R9). -/
theorem findTag_isSome (ts : Slots) (tag : Byte) : (findTag ts tag).isSome = true ↔ TagLive ts tag := by
  simp only [findTag, List.find?_isSome, TagLive, Option.any_eq_true, beq_iff_eq]
  constructor
  · rintro ⟨i, _, p, h, ht⟩; exact ⟨i, p, h, ht⟩
  · rintro ⟨i, p, h, ht⟩; exact ⟨i, mem_allSlots i, p, h, ht⟩

theorem findTag_eq_none (ts : Slots) (tag : Byte) : findTag ts tag = none ↔ ¬ TagLive ts tag := by
  rw [← findTag_isSome]; cases findTag ts tag <;> simp

/-- Under the table's laws a live tag is found in its one slot. -/
theorem findTag_eq_some {ts : Slots} (h : TableLaws ts) {i : Slot} {p : Plate} (hp : slotAt ts i = some p) :
    findTag ts p.tag = some i := by
  have hs : (findTag ts p.tag).isSome = true := (findTag_isSome ts p.tag).mpr ⟨i, p, hp, rfl⟩
  obtain ⟨j, hj⟩ := Option.isSome_iff_exists.mp hs
  have hq := List.find?_some hj
  simp only [Option.any_eq_true, beq_iff_eq] at hq
  obtain ⟨q, hq, ht⟩ := hq
  by_cases hij : j = i
  · rw [hj, hij]
  · exact absurd ht (h j i q p hij hq hp).1

/-- The check for overlap fails exactly when a live plate outside the skipped slots meets the record (01 R12). -/
theorem firstHit_isSome (ts : Slots) (skip : Slot → Bool) (h : HostFields) :
    (firstHit ts skip h).isSome = true ↔ MeetsLive ts (fun i => skip i = true) h := by
  simp only [firstHit, List.find?_isSome, MeetsLive, Bool.and_eq_true, Bool.not_eq_true', Option.any_eq_true]
  constructor
  · rintro ⟨i, _, hs, p, hp, hm⟩; exact ⟨i, p, by simp [hs], hp, hm⟩
  · rintro ⟨i, p, hs, hp, hm⟩; exact ⟨i, mem_allSlots i, by simpa using hs, p, hp, hm⟩

theorem firstHit_eq_none (ts : Slots) (skip : Slot → Bool) (h : HostFields) :
    firstHit ts skip h = none ↔ ¬ MeetsLive ts (fun i => skip i = true) h := by
  rw [← firstHit_isSome]; cases firstHit ts skip h <;> simp

/-- Meeting is symmetrical (01 R12). -/
theorem HostFields.meets_comm (a b : HostFields) : a.meets b = b.meets a := by
  simp only [HostFields.meets, rangesMeet]
  rw [Bool.beq_comm, Bool.and_comm (decide (a.top ≤ _)), Bool.and_comm (decide (a.left ≤ _))]

/-- Meeting reads the layer and the rectangle alone. -/
theorem HostFields.meets_congr {a a' b b' : HostFields} (h1 : a.layer = a'.layer) (h2 : a.top = a'.top) (h3 : a.left = a'.left)
    (h4 : a.height = a'.height) (h5 : a.width = a'.width) (g1 : b.layer = b'.layer) (g2 : b.top = b'.top)
    (g3 : b.left = b'.left) (g4 : b.height = b'.height) (g5 : b.width = b'.width) : a.meets b = a'.meets b' := by
  simp only [HostFields.meets, h1, h2, h3, h4, h5, g1, g2, g3, g4, g5]

/-- Two ranges of positive length meet exactly when they share a place. -/
theorem rangesMeet_iff (t : Int) (n : Nat) (u : Int) (m : Nat) (hn : 1 ≤ n) (hm : 1 ≤ m) :
    rangesMeet t n u m = true ↔ ∃ x, (t ≤ x ∧ x ≤ t + n - 1) ∧ (u ≤ x ∧ x ≤ u + m - 1) := by
  simp only [rangesMeet, Bool.and_eq_true, decide_eq_true_eq]
  constructor
  · rintro ⟨h1, h2⟩; exact ⟨max t u, by omega, by omega⟩
  · rintro ⟨x, hx, hy⟩; omega

/-- A carried-out amendment counts once, a faulted one changes nothing but the notice and its count (02 R39). -/
theorem applyAmendment_ok {f : FieldNo} {sc : Scenes} {w v : TableWork} {a : Amendment} (h : applyOp f sc w a.op = .ok v) :
    applyAmendment f sc w a = { v with applied := v.applied + 1 } := by
  simp [applyAmendment, h]

theorem applyAmendment_error {f : FieldNo} {sc : Scenes} {w : TableWork} {a : Amendment} {r : FaultReason}
    (h : applyOp f sc w a.op = .error r) : applyAmendment f sc w a = faultedBy w a r := by
  simp [applyAmendment, h, faultedBy]

/-- An amendment by tag with no live plate of the tag faults NO SUCH TAG. -/
theorem onTag_none {w : TableWork} {tag : Byte} (k : Slot → Plate → Except FaultReason TableWork)
    (h : ¬ TagLive w.slots tag) : onTag w tag k = .error .noSuchTag := by
  rw [← findTag_eq_none] at h
  simp [onTag, h]

/-- An amendment by tag acts on the plate that carries it. -/
theorem onTag_some {w : TableWork} {i : Slot} {p : Plate} (k : Slot → Plate → Except FaultReason TableWork)
    (h : TableLaws w.slots) (hp : slotAt w.slots i = some p) : onTag w p.tag k = k i p := by
  have := findTag_eq_some h hp
  simp [onTag, this, hp]

end Sys2Proof.Machine
end

