-- ==== Sys2Proof/Laws/Advance.lean ====
section
/-! SUPPORT. The checks and steps of the Plate Table's boundary as the statements say them (01 R17, R19; 02 R41, R57, R58). -/

namespace Sys2Proof.Machine

/-- At or before, by the signed difference (06 R118). -/
theorem atOrBefore_iff (f g : FieldNo) : atOrBefore f g = true ↔ (g - f).toNat < 2147483648 := by
  simp only [atOrBefore, decide_eq_true_eq]

/-- A start mode shows the plate (02 R41). -/
theorem startsShown_iff (m : StartMode) (f : FieldNo) : startsShown m f = true ↔ StartsAt m f := by
  cases m <;> simp [startsShown, StartsAt, atOrBefore_iff]

/-- The rotation index one step down (01 R17). -/
theorem rotationStep_wrap {pinned : Nat} {rot : Slot} (h : rot.val ≤ pinned) : rotationStep pinned rot = 31 := by
  simp [rotationStep, h]

theorem rotationStep_down {pinned : Nat} {rot : Slot} (h : pinned < rot.val) : (rotationStep pinned rot).val + 1 = rot.val := by
  have : ¬ rot.val ≤ pinned := by omega
  simp only [rotationStep, this, if_false]; omega

/-- The stop lies within one move (02 R57). -/
theorem reachesStop_iff {x rate : Int} (_ : rate ≠ 0) (z : Int) : reachesStop x rate z = true ↔ Beyond x rate z := by
  simp only [reachesStop, Beyond]; split <;> simp <;> omega

/-- An axis that moves and reaches no stop (02 R57 items 2 and 3). -/
theorem axisCandidate_free {x rate : Int} {stop : Option Int} (hr : rate ≠ 0) (hz : stop.filter (reachesStop x rate) = none) :
    (x + rate < -1024 → axisCandidate x rate stop = { coord := -1024, stopped := false, rate := 0 }) ∧
      (2047 < x + rate → axisCandidate x rate stop = { coord := 2047, stopped := false, rate := 0 }) ∧
      (-1024 ≤ x + rate → x + rate ≤ 2047 → axisCandidate x rate stop = { coord := x + rate, stopped := false, rate := rate }) := by
  unfold axisCandidate
  rw [if_neg hr, hz]
  dsimp only
  refine ⟨fun h => ?_, fun h => ?_, fun h1 h2 => ?_⟩
  · rw [if_pos (show x + rate < Config.coordMin from h)]; rfl
  · rw [if_neg (show ¬ x + rate < Config.coordMin from by unfold Config.coordMin; omega),
      if_pos (show Config.coordMax < x + rate from h)]; rfl
  · rw [if_neg (show ¬ x + rate < Config.coordMin from by unfold Config.coordMin; omega),
      if_neg (show ¬ Config.coordMax < x + rate from by unfold Config.coordMax; omega)]

/-- No stop is reached. -/
theorem filter_none_of {x rate : Int} {stop : Option Int} (hr : rate ≠ 0) (h : ∀ z, stop = some z → ¬ Beyond x rate z) :
    stop.filter (reachesStop x rate) = none := by
  cases stop with
  | none => rfl
  | some z =>
    have : reachesStop x rate z = false := by
      cases hb : reachesStop x rate z
      · rfl
      · exact absurd ((reachesStop_iff hr z).mp hb) (h z rfl)
    simp [Option.filter, this]

/-- The candidate of an axis is the one that the items of 02 R57 give. -/
theorem AxisGoes.candidate {x rate : Int} {stop : Option Int} {y rate' : Int} {b : Bool} (h : AxisGoes x rate stop y rate' b) :
    axisCandidate x rate stop = { coord := y, stopped := b, rate := rate' } := by
  obtain ⟨h1, h2, h3⟩ := h
  by_cases hr : rate = 0
  · obtain ⟨rfl, rfl, rfl⟩ := h1 hr
    unfold axisCandidate
    rw [if_pos hr]
  · by_cases hs : ∃ z, stop = some z ∧ Beyond x rate z
    · obtain ⟨z, rfl, hb⟩ := hs
      obtain ⟨rfl, rfl, rfl⟩ := h2 z hr rfl hb
      unfold axisCandidate
      rw [if_neg hr]
      simp [Option.filter, (reachesStop_iff hr y).mpr hb]
    · have hno : ∀ z, stop = some z → ¬ Beyond x rate z := fun z e hb => hs ⟨z, e, hb⟩
      obtain ⟨f1, f2, f3⟩ := axisCandidate_free hr (filter_none_of hr hno)
      obtain ⟨rfl, h4, h5, h6⟩ := h3 hr hno
      by_cases c1 : x + rate < -1024
      · obtain ⟨rfl, rfl⟩ := h4 c1; exact f1 c1
      · by_cases c2 : 2047 < x + rate
        · obtain ⟨rfl, rfl⟩ := h5 c2; exact f2 c2
        · obtain ⟨rfl, rfl⟩ := h6 (by omega) (by omega); exact f3 (by omega) (by omega)

/-- What the model computes is such a candidate (02 R57). -/
theorem axisCandidate_goes (x rate : Int) (stop : Option Int) :
    AxisGoes x rate stop (axisCandidate x rate stop).coord (axisCandidate x rate stop).rate
      (axisCandidate x rate stop).stopped := by
  by_cases hr : rate = 0
  · subst hr
    exact ⟨fun _ => ⟨rfl, rfl, rfl⟩, fun _ h => absurd rfl h, fun h => absurd rfl h⟩
  · refine ⟨fun h => absurd h hr, ?_, ?_⟩
    · intro z _ hs hb
      subst hs
      unfold axisCandidate
      rw [if_neg hr]
      simp [Option.filter, (reachesStop_iff hr z).mpr hb]
    · intro _ hno
      obtain ⟨f1, f2, f3⟩ := axisCandidate_free hr (filter_none_of hr hno)
      refine ⟨?_, fun h => ?_, fun h => ?_, fun h1 h2 => ?_⟩
      · by_cases c1 : x + rate < -1024
        · rw [f1 c1]
        · by_cases c2 : 2047 < x + rate
          · rw [f2 c2]
          · rw [f3 (by omega) (by omega)]
      · rw [f1 h]; exact ⟨rfl, rfl⟩
      · rw [f2 h]; exact ⟨rfl, rfl⟩
      · rw [f3 h1 h2]; exact ⟨rfl, rfl⟩

/-- The lowest FREE slot at or above P, found or not (01 R19). -/
theorem lowestFree_eq_none (ts : Slots) (pinned : Nat) :
    lowestFree ts pinned = none ↔ ∀ j : Slot, pinned ≤ j.val → slotAt ts j ≠ none := by
  simp only [lowestFree, List.find?_eq_none, Bool.and_eq_true, decide_eq_true_eq, not_and, Option.isNone_iff_eq_none]
  exact ⟨fun h j => h j (mem_allSlots j), fun h j _ => h j⟩

end Sys2Proof.Machine
end

