-- ==== Sys2Proof/Laws/State.lean ====
section
/-! SUPPORT. One lemma per field and update of State, and of the operations that touch one or two blocks. -/

namespace Sys2Proof.Machine

@[simp] theorem State.withPort_port (s : State) (v : Port) : (s.withPort v).port = v := rfl
@[simp] theorem State.withPort_table (s : State) (v : Port) : (s.withPort v).table = s.table := rfl
@[simp] theorem State.withPort_keyer (s : State) (v : Port) : (s.withPort v).keyer = s.keyer := rfl
@[simp] theorem State.withPort_seq (s : State) (v : Port) : (s.withPort v).seq = s.seq := rfl
@[simp] theorem State.withPort_scenes (s : State) (v : Port) : (s.withPort v).scenes = s.scenes := rfl
@[simp] theorem State.withPort_clock (s : State) (v : Port) : (s.withPort v).clock = s.clock := rfl
@[simp] theorem State.withPort_rlc (s : State) (v : Port) : (s.withPort v).rlc = s.rlc := rfl
@[simp] theorem State.withPort_raster (s : State) (v : Port) : (s.withPort v).raster = s.raster := rfl
@[simp] theorem State.withPort_att (s : State) (v : Port) : (s.withPort v).att = s.att := rfl
@[simp] theorem State.withPort_pending (s : State) (v : Port) : (s.withPort v).pending = s.pending := rfl

@[simp] theorem State.withTable_port (s : State) (v : PlateTable) : (s.withTable v).port = s.port := rfl
@[simp] theorem State.withTable_table (s : State) (v : PlateTable) : (s.withTable v).table = v := rfl
@[simp] theorem State.withTable_keyer (s : State) (v : PlateTable) : (s.withTable v).keyer = s.keyer := rfl
@[simp] theorem State.withTable_seq (s : State) (v : PlateTable) : (s.withTable v).seq = s.seq := rfl
@[simp] theorem State.withTable_scenes (s : State) (v : PlateTable) : (s.withTable v).scenes = s.scenes := rfl
@[simp] theorem State.withTable_clock (s : State) (v : PlateTable) : (s.withTable v).clock = s.clock := rfl
@[simp] theorem State.withTable_rlc (s : State) (v : PlateTable) : (s.withTable v).rlc = s.rlc := rfl
@[simp] theorem State.withTable_raster (s : State) (v : PlateTable) : (s.withTable v).raster = s.raster := rfl
@[simp] theorem State.withTable_att (s : State) (v : PlateTable) : (s.withTable v).att = s.att := rfl
@[simp] theorem State.withTable_pending (s : State) (v : PlateTable) : (s.withTable v).pending = s.pending := rfl

@[simp] theorem State.withKeyer_port (s : State) (v : Keyer) : (s.withKeyer v).port = s.port := rfl
@[simp] theorem State.withKeyer_table (s : State) (v : Keyer) : (s.withKeyer v).table = s.table := rfl
@[simp] theorem State.withKeyer_keyer (s : State) (v : Keyer) : (s.withKeyer v).keyer = v := rfl
@[simp] theorem State.withKeyer_seq (s : State) (v : Keyer) : (s.withKeyer v).seq = s.seq := rfl
@[simp] theorem State.withKeyer_scenes (s : State) (v : Keyer) : (s.withKeyer v).scenes = s.scenes := rfl
@[simp] theorem State.withKeyer_clock (s : State) (v : Keyer) : (s.withKeyer v).clock = s.clock := rfl
@[simp] theorem State.withKeyer_rlc (s : State) (v : Keyer) : (s.withKeyer v).rlc = s.rlc := rfl
@[simp] theorem State.withKeyer_raster (s : State) (v : Keyer) : (s.withKeyer v).raster = s.raster := rfl
@[simp] theorem State.withKeyer_att (s : State) (v : Keyer) : (s.withKeyer v).att = s.att := rfl
@[simp] theorem State.withKeyer_pending (s : State) (v : Keyer) : (s.withKeyer v).pending = s.pending := rfl

@[simp] theorem State.withSeq_port (s : State) (v : Sequencer) : (s.withSeq v).port = s.port := rfl
@[simp] theorem State.withSeq_table (s : State) (v : Sequencer) : (s.withSeq v).table = s.table := rfl
@[simp] theorem State.withSeq_keyer (s : State) (v : Sequencer) : (s.withSeq v).keyer = s.keyer := rfl
@[simp] theorem State.withSeq_seq (s : State) (v : Sequencer) : (s.withSeq v).seq = v := rfl
@[simp] theorem State.withSeq_scenes (s : State) (v : Sequencer) : (s.withSeq v).scenes = s.scenes := rfl
@[simp] theorem State.withSeq_clock (s : State) (v : Sequencer) : (s.withSeq v).clock = s.clock := rfl
@[simp] theorem State.withSeq_rlc (s : State) (v : Sequencer) : (s.withSeq v).rlc = s.rlc := rfl
@[simp] theorem State.withSeq_raster (s : State) (v : Sequencer) : (s.withSeq v).raster = s.raster := rfl
@[simp] theorem State.withSeq_att (s : State) (v : Sequencer) : (s.withSeq v).att = s.att := rfl
@[simp] theorem State.withSeq_pending (s : State) (v : Sequencer) : (s.withSeq v).pending = s.pending := rfl

@[simp] theorem State.withScenes_port (s : State) (v : Scenes) : (s.withScenes v).port = s.port := rfl
@[simp] theorem State.withScenes_table (s : State) (v : Scenes) : (s.withScenes v).table = s.table := rfl
@[simp] theorem State.withScenes_keyer (s : State) (v : Scenes) : (s.withScenes v).keyer = s.keyer := rfl
@[simp] theorem State.withScenes_seq (s : State) (v : Scenes) : (s.withScenes v).seq = s.seq := rfl
@[simp] theorem State.withScenes_scenes (s : State) (v : Scenes) : (s.withScenes v).scenes = v := rfl
@[simp] theorem State.withScenes_clock (s : State) (v : Scenes) : (s.withScenes v).clock = s.clock := rfl
@[simp] theorem State.withScenes_rlc (s : State) (v : Scenes) : (s.withScenes v).rlc = s.rlc := rfl
@[simp] theorem State.withScenes_raster (s : State) (v : Scenes) : (s.withScenes v).raster = s.raster := rfl
@[simp] theorem State.withScenes_att (s : State) (v : Scenes) : (s.withScenes v).att = s.att := rfl
@[simp] theorem State.withScenes_pending (s : State) (v : Scenes) : (s.withScenes v).pending = s.pending := rfl

@[simp] theorem State.withClock_port (s : State) (v : FieldClock) : (s.withClock v).port = s.port := rfl
@[simp] theorem State.withClock_table (s : State) (v : FieldClock) : (s.withClock v).table = s.table := rfl
@[simp] theorem State.withClock_keyer (s : State) (v : FieldClock) : (s.withClock v).keyer = s.keyer := rfl
@[simp] theorem State.withClock_seq (s : State) (v : FieldClock) : (s.withClock v).seq = s.seq := rfl
@[simp] theorem State.withClock_scenes (s : State) (v : FieldClock) : (s.withClock v).scenes = s.scenes := rfl
@[simp] theorem State.withClock_clock (s : State) (v : FieldClock) : (s.withClock v).clock = v := rfl
@[simp] theorem State.withClock_rlc (s : State) (v : FieldClock) : (s.withClock v).rlc = s.rlc := rfl
@[simp] theorem State.withClock_raster (s : State) (v : FieldClock) : (s.withClock v).raster = s.raster := rfl
@[simp] theorem State.withClock_att (s : State) (v : FieldClock) : (s.withClock v).att = s.att := rfl
@[simp] theorem State.withClock_pending (s : State) (v : FieldClock) : (s.withClock v).pending = s.pending := rfl

@[simp] theorem State.withRlc_port (s : State) (v : RefLock) : (s.withRlc v).port = s.port := rfl
@[simp] theorem State.withRlc_table (s : State) (v : RefLock) : (s.withRlc v).table = s.table := rfl
@[simp] theorem State.withRlc_keyer (s : State) (v : RefLock) : (s.withRlc v).keyer = s.keyer := rfl
@[simp] theorem State.withRlc_seq (s : State) (v : RefLock) : (s.withRlc v).seq = s.seq := rfl
@[simp] theorem State.withRlc_scenes (s : State) (v : RefLock) : (s.withRlc v).scenes = s.scenes := rfl
@[simp] theorem State.withRlc_clock (s : State) (v : RefLock) : (s.withRlc v).clock = s.clock := rfl
@[simp] theorem State.withRlc_rlc (s : State) (v : RefLock) : (s.withRlc v).rlc = v := rfl
@[simp] theorem State.withRlc_raster (s : State) (v : RefLock) : (s.withRlc v).raster = s.raster := rfl
@[simp] theorem State.withRlc_att (s : State) (v : RefLock) : (s.withRlc v).att = s.att := rfl
@[simp] theorem State.withRlc_pending (s : State) (v : RefLock) : (s.withRlc v).pending = s.pending := rfl

@[simp] theorem State.withRaster_port (s : State) (v : Raster) : (s.withRaster v).port = s.port := rfl
@[simp] theorem State.withRaster_table (s : State) (v : Raster) : (s.withRaster v).table = s.table := rfl
@[simp] theorem State.withRaster_keyer (s : State) (v : Raster) : (s.withRaster v).keyer = s.keyer := rfl
@[simp] theorem State.withRaster_seq (s : State) (v : Raster) : (s.withRaster v).seq = s.seq := rfl
@[simp] theorem State.withRaster_scenes (s : State) (v : Raster) : (s.withRaster v).scenes = s.scenes := rfl
@[simp] theorem State.withRaster_clock (s : State) (v : Raster) : (s.withRaster v).clock = s.clock := rfl
@[simp] theorem State.withRaster_rlc (s : State) (v : Raster) : (s.withRaster v).rlc = s.rlc := rfl
@[simp] theorem State.withRaster_raster (s : State) (v : Raster) : (s.withRaster v).raster = v := rfl
@[simp] theorem State.withRaster_att (s : State) (v : Raster) : (s.withRaster v).att = s.att := rfl
@[simp] theorem State.withRaster_pending (s : State) (v : Raster) : (s.withRaster v).pending = s.pending := rfl

@[simp] theorem State.withAtt_port (s : State) (v : Attention) : (s.withAtt v).port = s.port := rfl
@[simp] theorem State.withAtt_table (s : State) (v : Attention) : (s.withAtt v).table = s.table := rfl
@[simp] theorem State.withAtt_keyer (s : State) (v : Attention) : (s.withAtt v).keyer = s.keyer := rfl
@[simp] theorem State.withAtt_seq (s : State) (v : Attention) : (s.withAtt v).seq = s.seq := rfl
@[simp] theorem State.withAtt_scenes (s : State) (v : Attention) : (s.withAtt v).scenes = s.scenes := rfl
@[simp] theorem State.withAtt_clock (s : State) (v : Attention) : (s.withAtt v).clock = s.clock := rfl
@[simp] theorem State.withAtt_rlc (s : State) (v : Attention) : (s.withAtt v).rlc = s.rlc := rfl
@[simp] theorem State.withAtt_raster (s : State) (v : Attention) : (s.withAtt v).raster = s.raster := rfl
@[simp] theorem State.withAtt_att (s : State) (v : Attention) : (s.withAtt v).att = v := rfl
@[simp] theorem State.withAtt_pending (s : State) (v : Attention) : (s.withAtt v).pending = s.pending := rfl

@[simp] theorem State.withPending_port (s : State) (v : List Instr) : (s.withPending v).port = s.port := rfl
@[simp] theorem State.withPending_table (s : State) (v : List Instr) : (s.withPending v).table = s.table := rfl
@[simp] theorem State.withPending_keyer (s : State) (v : List Instr) : (s.withPending v).keyer = s.keyer := rfl
@[simp] theorem State.withPending_seq (s : State) (v : List Instr) : (s.withPending v).seq = s.seq := rfl
@[simp] theorem State.withPending_scenes (s : State) (v : List Instr) : (s.withPending v).scenes = s.scenes := rfl
@[simp] theorem State.withPending_clock (s : State) (v : List Instr) : (s.withPending v).clock = s.clock := rfl
@[simp] theorem State.withPending_rlc (s : State) (v : List Instr) : (s.withPending v).rlc = s.rlc := rfl
@[simp] theorem State.withPending_raster (s : State) (v : List Instr) : (s.withPending v).raster = s.raster := rfl
@[simp] theorem State.withPending_att (s : State) (v : List Instr) : (s.withPending v).att = s.att := rfl
@[simp] theorem State.withPending_pending (s : State) (v : List Instr) : (s.withPending v).pending = v := rfl

@[simp] theorem raise_port (s : State) (d : Detail) : (raise s d).port = s.port := rfl
@[simp] theorem raise_table (s : State) (d : Detail) : (raise s d).table = s.table := rfl
@[simp] theorem raise_keyer (s : State) (d : Detail) : (raise s d).keyer = s.keyer := rfl
@[simp] theorem raise_seq (s : State) (d : Detail) : (raise s d).seq = s.seq := rfl
@[simp] theorem raise_scenes (s : State) (d : Detail) : (raise s d).scenes = s.scenes := rfl
@[simp] theorem raise_clock (s : State) (d : Detail) : (raise s d).clock = s.clock := rfl
@[simp] theorem raise_rlc (s : State) (d : Detail) : (raise s d).rlc = s.rlc := rfl
@[simp] theorem raise_raster (s : State) (d : Detail) : (raise s d).raster = s.raster := rfl
@[simp] theorem raise_att (s : State) (d : Detail) : (raise s d).att = s.att.occur d := rfl
@[simp] theorem raise_pending (s : State) (d : Detail) : (raise s d).pending = s.pending := rfl

@[simp] theorem raiseAll_port (s : State) (d : List Detail) : (raiseAll s d).port = s.port := rfl
@[simp] theorem raiseAll_table (s : State) (d : List Detail) : (raiseAll s d).table = s.table := rfl
@[simp] theorem raiseAll_keyer (s : State) (d : List Detail) : (raiseAll s d).keyer = s.keyer := rfl
@[simp] theorem raiseAll_seq (s : State) (d : List Detail) : (raiseAll s d).seq = s.seq := rfl
@[simp] theorem raiseAll_scenes (s : State) (d : List Detail) : (raiseAll s d).scenes = s.scenes := rfl
@[simp] theorem raiseAll_clock (s : State) (d : List Detail) : (raiseAll s d).clock = s.clock := rfl
@[simp] theorem raiseAll_rlc (s : State) (d : List Detail) : (raiseAll s d).rlc = s.rlc := rfl
@[simp] theorem raiseAll_raster (s : State) (d : List Detail) : (raiseAll s d).raster = s.raster := rfl
@[simp] theorem raiseAll_att (s : State) (d : List Detail) : (raiseAll s d).att = s.att.occurAll d := rfl
@[simp] theorem raiseAll_pending (s : State) (d : List Detail) : (raiseAll s d).pending = s.pending := rfl

@[simp] theorem reply_table (s : State) (c : Byte) (b : List Byte) : (reply s c b).table = s.table := rfl
@[simp] theorem reply_keyer (s : State) (c : Byte) (b : List Byte) : (reply s c b).keyer = s.keyer := rfl
@[simp] theorem reply_seq (s : State) (c : Byte) (b : List Byte) : (reply s c b).seq = s.seq := rfl
@[simp] theorem reply_scenes (s : State) (c : Byte) (b : List Byte) : (reply s c b).scenes = s.scenes := rfl
@[simp] theorem reply_clock (s : State) (c : Byte) (b : List Byte) : (reply s c b).clock = s.clock := rfl
@[simp] theorem reply_rlc (s : State) (c : Byte) (b : List Byte) : (reply s c b).rlc = s.rlc := rfl
@[simp] theorem reply_raster (s : State) (c : Byte) (b : List Byte) : (reply s c b).raster = s.raster := rfl
@[simp] theorem reply_att (s : State) (c : Byte) (b : List Byte) : (reply s c b).att = s.att := rfl
@[simp] theorem reply_pending (s : State) (c : Byte) (b : List Byte) : (reply s c b).pending = s.pending := rfl

@[simp] theorem hand_port (s : State) (es : List CountEvent) : (hand s es).port = s.port := rfl
@[simp] theorem hand_table (s : State) (es : List CountEvent) : (hand s es).table = s.table := rfl
@[simp] theorem hand_keyer (s : State) (es : List CountEvent) : (hand s es).keyer = s.keyer := rfl
@[simp] theorem hand_seq (s : State) (es : List CountEvent) : (hand s es).seq = s.seq := rfl
@[simp] theorem hand_scenes (s : State) (es : List CountEvent) : (hand s es).scenes = s.scenes := rfl
@[simp] theorem hand_rlc (s : State) (es : List CountEvent) : (hand s es).rlc = s.rlc := rfl
@[simp] theorem hand_raster (s : State) (es : List CountEvent) : (hand s es).raster = s.raster := rfl
@[simp] theorem hand_att (s : State) (es : List CountEvent) : (hand s es).att = s.att := rfl
@[simp] theorem hand_pending (s : State) (es : List CountEvent) : (hand s es).pending = s.pending := rfl
@[simp] theorem hand_clock (s : State) (es : List CountEvent) : (hand s es).clock = s.clock.hand es := rfl

@[simp] theorem post_port (s : State) (o : Origin) (op : AmendOp) : (post s o op).port = s.port := rfl
@[simp] theorem post_keyer (s : State) (o : Origin) (op : AmendOp) : (post s o op).keyer = s.keyer := rfl
@[simp] theorem post_seq (s : State) (o : Origin) (op : AmendOp) : (post s o op).seq = s.seq := rfl
@[simp] theorem post_scenes (s : State) (o : Origin) (op : AmendOp) : (post s o op).scenes = s.scenes := rfl
@[simp] theorem post_clock (s : State) (o : Origin) (op : AmendOp) : (post s o op).clock = s.clock := rfl
@[simp] theorem post_rlc (s : State) (o : Origin) (op : AmendOp) : (post s o op).rlc = s.rlc := rfl
@[simp] theorem post_raster (s : State) (o : Origin) (op : AmendOp) : (post s o op).raster = s.raster := rfl
@[simp] theorem post_att (s : State) (o : Origin) (op : AmendOp) : (post s o op).att = s.att := rfl
@[simp] theorem post_pending (s : State) (o : Origin) (op : AmendOp) : (post s o op).pending = s.pending := rfl
@[simp] theorem post_queue (s : State) (o : Origin) (op : AmendOp) :
    (post s o op).table = { s.table with queue := s.table.queue ++ [{ origin := o, op := op }] } := rfl

end Sys2Proof.Machine
end

