-- ==== Sys2Proof/Laws/Attention.lean ====
section
/-! SUPPORT. What the Attention Unit's operations do to each cause (10 R188 to R192). -/

namespace Sys2Proof.Machine

theorem Attention.get_set (a : Attention) (v : CauseState) (c d : Cause) :
    (a.set v c).get d = if d = c then v else a.get d := by
  cases c <;> cases d <;> rfl

@[simp] theorem Attention.get_set_same (a : Attention) (v : CauseState) (c : Cause) : (a.set v c).get c = v := by
  cases c <;> rfl

theorem Attention.get_set_other (a : Attention) (v : CauseState) {c d : Cause} (h : d ≠ c) : (a.set v c).get d = a.get d := by
  rw [Attention.get_set, if_neg h]

/-- Two units with the same sixteen causes are one. -/
theorem Attention.eq_of_get {a b : Attention} (h : ∀ c, a.get c = b.get c) : a = b := by
  have h0 := h .lockChange
  have h1 := h .syncFault
  have h2 := h .rasterReset
  have h3 := h .markA
  have h4 := h .markB
  have h5 := h .countDone
  have h6 := h .cueNotify
  have h7 := h .sequencerFault
  have h8 := h .plateShown
  have h9 := h .plateClosed
  have h10 := h .plateStopped
  have h11 := h .motionHeld
  have h12 := h .applyFault
  have h13 := h .eviction
  have h14 := h .spanOverflow
  have h15 := h .portOverrun
  cases a; cases b; simp_all [Attention.get]

/-- One occurrence touches its own cause alone (10 R188). -/
theorem Attention.get_occur (a : Attention) (d : Detail) (c : Cause) :
    (a.occur d).get c = if c = d.cause then (a.get c).occur d else a.get c := by
  rw [Attention.occur, Attention.get_set]
  by_cases h : c = d.cause
  · subst h; rfl
  · rw [if_neg h, if_neg h]

theorem Attention.get_occur_other (a : Attention) {d : Detail} {c : Cause} (h : c ≠ d.cause) : (a.occur d).get c = a.get c := by
  rw [Attention.get_occur, if_neg h]

/-- Occurrences of other causes leave a cause as it was. -/
theorem Attention.get_occurAll_other (ds : List Detail) (c : Cause) (h : ∀ d ∈ ds, c ≠ d.cause) (a : Attention) :
    (a.occurAll ds).get c = a.get c := by
  induction ds generalizing a with
  | nil => rfl
  | cons d ds ih =>
    have hd := h d (by simp)
    have ht : ∀ e ∈ ds, c ≠ e.cause := fun e he => h e (by simp [he])
    calc ((a.occur d).occurAll ds).get c = (a.occur d).get c := ih ht _
      _ = a.get c := Attention.get_occur_other a hd

@[simp] theorem Attention.occurAll_nil (a : Attention) : a.occurAll [] = a := rfl
@[simp] theorem Attention.occurAll_cons (a : Attention) (d : Detail) (ds : List Detail) :
    a.occurAll (d :: ds) = (a.occur d).occurAll ds := rfl

/-- A pending cause stays pending through an occurrence, and keeps its latch. -/
theorem CauseState.occur_pending {c : CauseState} (d : Detail) (h : c.pending = true) : c.occur d = { c with more := true } := by
  simp [CauseState.occur, h]

theorem CauseState.occur_clear {c : CauseState} (d : Detail) (h : c.pending = false) :
    c.occur d = { c with pending := true, latch := some d } := by
  simp [CauseState.occur, h]

/-- No occurrence changes an enable (10 R188). -/
theorem CauseState.occur_enable (c : CauseState) (d : Detail) : (c.occur d).enable = c.enable := by
  simp only [CauseState.occur]; split <;> rfl

theorem Attention.get_clear (a : Attention) (c d : Cause) : (a.clear c).get d = if d = c then (a.get d).cleared else a.get d := by
  rw [Attention.clear, Attention.get_set]
  by_cases h : d = c
  · subst h; rfl
  · rw [if_neg h, if_neg h]

/-- Clearing by a 16-bit number clears the causes of its 1 bits (10 R190). -/
theorem Attention.get_clearBits (a : Attention) (bits : Nat) (c : Cause) :
    (a.clearBits bits).get c = if bits.testBit c.number then (a.get c).cleared else a.get c := by
  have key : ∀ (l : List Cause) (a : Attention), l.Nodup →
      (l.foldl (fun acc c => if bits.testBit c.number then acc.clear c else acc) a).get c =
        if c ∈ l ∧ bits.testBit c.number = true then (a.get c).cleared else a.get c := by
    intro l
    induction l with
    | nil => intro a _; simp
    | cons d l ih =>
      intro a hl
      have hn : d ∉ l := (List.nodup_cons.mp hl).1
      rw [List.foldl_cons, ih _ (List.nodup_cons.mp hl).2]
      by_cases hcd : c = d
      · subst hcd
        by_cases hb : bits.testBit c.number = true
        · simp [hn, hb, Attention.get_clear]
        · simp [hn, hb]
      · by_cases hb : bits.testBit d.number = true <;> simp [hb, Attention.get_clear, hcd]
  have hall : c ∈ allCauses := by cases c <;> decide
  rw [Attention.clearBits, key allCauses a (by decide)]
  simp [hall]

/-- SET ENABLES writes every enable and nothing else (10 R191). -/
theorem Attention.get_setEnables (a : Attention) (bits : Nat) (c : Cause) :
    (a.setEnables bits).get c = { a.get c with enable := bits.testBit c.number } := by
  have key : ∀ (l : List Cause) (a : Attention), l.Nodup →
      (l.foldl (fun acc c => acc.set { acc.get c with enable := bits.testBit c.number } c) a).get c =
        if c ∈ l then { a.get c with enable := bits.testBit c.number } else a.get c := by
    intro l
    induction l with
    | nil => intro a _; simp
    | cons d l ih =>
      intro a hl
      have hn : d ∉ l := (List.nodup_cons.mp hl).1
      rw [List.foldl_cons, ih _ (List.nodup_cons.mp hl).2]
      by_cases hcd : c = d
      · subst hcd; simp [hn]
      · simp [hcd, Attention.get_set]
  have hall : c ∈ allCauses := by cases c <;> decide
  rw [Attention.setEnables, key allCauses a (by decide)]
  simp [hall]

/-- INT is asserted exactly while a cause is pending and enabled (10 R192). -/
theorem Attention.int_iff (a : Attention) : a.int = true ↔ ∃ c, (a.get c).pending = true ∧ (a.get c).enable = true := by
  have hall : ∀ c : Cause, c ∈ allCauses := by intro c; cases c <;> decide
  simp only [Attention.int, List.any_eq_true, Bool.and_eq_true]
  exact ⟨fun ⟨c, _, h⟩ => ⟨c, h⟩, fun ⟨c, h⟩ => ⟨c, hall c, h⟩⟩

end Sys2Proof.Machine
end

