-- ==== Sys2Proof/Laws/Keyer.lean ====
section
/-! SUPPORT. The visible set, the span list and KEY (chapter 03). -/

namespace Sys2Proof.Machine

/-- The plates of the visible set (03 R61, R63). -/
theorem mem_latchVisible (lock : LockState) (slew : Slew) (ts : Slots) (v : VisPlate) :
    v ∈ latchVisible lock slew ts ↔
      ∃ i p, slotAt ts i = some p ∧ isVisible lock slew p = true ∧ v = visEntry i p := by
  simp only [latchVisible, List.mem_filterMap]
  constructor
  · rintro ⟨i, _, h⟩
    cases hp : slotAt ts i with
    | none => simp [hp] at h
    | some p =>
      simp only [hp] at h
      split at h
      · rename_i hv; exact ⟨i, p, hp, hv, by simpa using h.symm⟩
      · simp at h
  · rintro ⟨i, p, hp, hv, rfl⟩
    exact ⟨i, mem_allSlots i, by simp [hp, hv]⟩

/-- A plate is visible at a latch as 03 R61 and R62 say. -/
theorem isVisible_iff (lock : LockState) (slew : Slew) (p : Plate) :
    isVisible lock slew p = true ↔ p.state ≠ .armed ∧ 0 < p.mix ∧
      ¬ (p.holdInSlew = true ∧ ((∃ r, slew = .slew r) ∨ lock = .search ∨ lock = .lineLock)) := by
  cases slew <;> cases hh : p.holdInSlew <;> simp [isVisible, hiddenInSlew, hh, and_assoc]

/-- The visible set ascends by slot (03 R63). -/
theorem latchVisible_pairwise (lock : LockState) (slew : Slew) (ts : Slots) :
    (latchVisible lock slew ts).Pairwise (fun v w => v.slot < w.slot) := by
  unfold latchVisible
  refine List.Pairwise.filterMap _ ?_ (List.pairwise_lt_finRange 32)
  intro i j hij v hv w hw
  have key : ∀ (k : Slot) (x : VisPlate), (match slotAt ts k with
      | none => none | some p => if isVisible lock slew p then some (visEntry k p) else none) = some x → x.slot = k := by
    intro k x h
    cases hs : slotAt ts k with
    | none => simp [hs] at h
    | some p =>
      simp only [hs] at h
      split at h
      · cases h; rfl
      · cases h
  rw [key i v hv, key j w hw]; exact hij

/-- Inserting and sorting keep the spans themselves (03 R70). -/
theorem insertSpan_perm (a : Span) (l : List Span) : (insertSpan a l).Perm (a :: l) := by
  induction l with
  | nil => exact List.Perm.refl _
  | cons b bs ih =>
    unfold insertSpan
    split
    · exact List.Perm.refl _
    · exact (ih.cons b).trans (List.Perm.swap a b bs)

theorem sortSpans_perm (l : List Span) : (sortSpans l).Perm l := by
  induction l with
  | nil => exact List.Perm.refl _
  | cons a as ih => exact (insertSpan_perm a (sortSpans as)).trans (ih.cons a)

/-- The order of 03 R70 is total and transitive. -/
theorem spanBefore_total (a b : Span) (h : spanBefore a b = false) : spanBefore b a = true := by
  simp only [spanBefore, Bool.or_eq_false_iff, Bool.and_eq_false_iff, decide_eq_false_iff_not, Bool.or_eq_true,
    Bool.and_eq_true, decide_eq_true_eq] at *
  omega

theorem spanBefore_trans {a b c : Span} (h1 : spanBefore a b = true) (h2 : spanBefore b c = true) : spanBefore a c = true := by
  simp only [spanBefore, Bool.or_eq_true, Bool.and_eq_true, decide_eq_true_eq] at *
  omega

theorem insertSpan_sorted (a : Span) {l : List Span} (h : l.Pairwise (fun x y => spanBefore x y = true)) :
    (insertSpan a l).Pairwise (fun x y => spanBefore x y = true) := by
  induction l with
  | nil => exact List.pairwise_singleton _ _
  | cons b bs ih =>
    have hb := List.pairwise_cons.mp h
    unfold insertSpan
    split
    · rename_i hab
      refine List.pairwise_cons.mpr ⟨?_, h⟩
      intro x hx
      rcases List.mem_cons.mp hx with rfl | hx
      · exact hab
      · exact spanBefore_trans hab (hb.1 x hx)
    · rename_i hab
      refine List.pairwise_cons.mpr ⟨?_, ih hb.2⟩
      intro x hx
      rcases List.mem_cons.mp ((insertSpan_perm a bs).mem_iff.mp hx) with rfl | hx
      · exact spanBefore_total _ _ (by simpa using hab)
      · exact hb.1 x hx

/-- The span list stands in the order of 03 R70. -/
theorem sortSpans_sorted (l : List Span) : (sortSpans l).Pairwise (fun x y => spanBefore x y = true) := by
  induction l with
  | nil => exact List.Pairwise.nil
  | cons a as ih => exact insertSpan_sorted a ih

/-- The candidates of a row (03 R69). -/
theorem candidateSpan_iff (width r : Nat) (v : VisPlate) (sp : Span) :
    candidateSpan width r v = some sp ↔ CandidateFor width r v sp := by
  unfold candidateSpan CandidateFor
  split
  · rename_i h; constructor
    · intro e; exact ⟨h.1, h.2.1, h.2.2.1, h.2.2.2, (Option.some.inj e).symm⟩
    · rintro ⟨_, _, _, _, rfl⟩; rfl
  · rename_i h; constructor
    · intro e; simp at e
    · rintro ⟨h1, h2, h3, h4, _⟩; exact absurd ⟨h1, h2, h3, h4⟩ h

theorem mem_rowCandidates (width r : Nat) (vs : List VisPlate) (sp : Span) :
    sp ∈ rowCandidates width r vs ↔ ∃ v ∈ vs, CandidateFor width r v sp := by
  simp only [rowCandidates, List.mem_filterMap, candidateSpan_iff]

/-- Every span of the list is a candidate (03 R69). -/
theorem mem_spanList {width r : Nat} {vs : List VisPlate} {sp : Span} (h : sp ∈ spanList width r vs) :
    ∃ v ∈ vs, CandidateFor width r v sp := by
  rw [← mem_rowCandidates]
  have := (sortSpans_perm _).mem_iff.mp h
  exact (List.mem_filter.mp this).1

/-- No contribution exceeds 16 while the mix does not and the levels are at most 4 (03 R72). -/
theorem contribution_le {live : Vector Nat 16} (i : Fin 16) {sp : Span} (h : sp.mix ≤ 16) (hl : ∀ j, live.get j ≤ 4) :
    contribution live i sp ≤ 16 := by
  unfold contribution
  split
  · exact h
  · split
    · omega
    · have h1 : sp.mix * live.get i ≤ 16 * 4 := Nat.mul_le_mul h (hl i)
      omega

end Sys2Proof.Machine
end

