-- ==== Sys2Proof/Laws/Raster.lean ====
section
/-! SUPPORT. The offset stays within the pull limit through every rule that moves it (08 R159 to R164), and frame positions stay in the
frame (08 R158, R166). -/

namespace Sys2Proof.Machine

theorem clampOffset_natAbs (limit : Nat) (x : Int) : (clampOffset limit x).natAbs ≤ limit := by
  simp only [clampOffset]; omega

theorem clampOffset_id {limit : Nat} {x : Int} (h : x.natAbs ≤ limit) : clampOffset limit x = x := by
  simp only [clampOffset]; omega

theorem stepToZero_natAbs (step : Nat) (o : Int) : (stepToZero step o).natAbs ≤ o.natAbs := by
  simp only [stepToZero]; split
  · simp
  · split <;> omega

theorem stepToward_natAbs {step limit : Nat} {aim o : Int} (ha : aim.natAbs ≤ limit) (ho : o.natAbs ≤ limit) :
    (stepToward step aim o).natAbs ≤ limit := by
  simp only [stepToward]; split <;> omega

theorem rampAim_natAbs (limit : Nat) (gain : Bool) : (rampAim limit gain).natAbs ≤ limit := by
  cases gain <;> simp [rampAim]

/-- A step of at most `step` toward the aim (08 R163). -/
theorem stepToward_spec (step : Nat) (aim o : Int) : StepsToward step aim o (stepToward step aim o) := by
  simp only [StepsToward, stepToward]
  refine ⟨fun h => ⟨fun h2 => ?_, fun h2 => ?_⟩, fun h => ⟨fun h2 => ?_, fun h2 => ?_⟩⟩
  · rw [if_pos h]; omega
  · rw [if_pos h]; omega
  · rw [if_neg (by omega)]; omega
  · rw [if_neg (by omega)]; omega

theorem stepToZero_spec (step : Nat) (o : Int) : StepsToward step 0 o (stepToZero step o) := by
  simp only [StepsToward, stepToZero]
  refine ⟨fun h => ⟨fun h2 => ?_, fun h2 => ?_⟩, fun h => ⟨fun h2 => ?_, fun h2 => ?_⟩⟩ <;> split <;> (try split) <;> omega

/-- What a step toward an aim gives is determined. -/
theorem StepsToward.unique {r : Nat} {aim o x y : Int} (hx : StepsToward r aim o x) (hy : StepsToward r aim o y) : x = y := by
  obtain ⟨h1, h2⟩ := hx
  obtain ⟨g1, g2⟩ := hy
  by_cases h : o ≤ aim
  · by_cases k : o + r ≤ aim
    · rw [(h1 h).1 k, (g1 h).1 k]
    · rw [(h1 h).2 (by omega), (g1 h).2 (by omega)]
  · by_cases k : aim ≤ o - r
    · rw [(h2 (by omega)).1 k, (g2 (by omega)).1 k]
    · rw [(h2 (by omega)).2 (by omega), (g2 (by omega)).2 (by omega)]

/-- The offset after a segment end stays within the pull limit (08 R159, R163). -/
theorem segmentOutcome_offset {q : RasterParams} {std : Standard} {w : Ramp} {o : Int} (h : o.natAbs ≤ q.pullLimit) :
    (segmentOutcome q std w o).offset.natAbs ≤ q.pullLimit := by
  have hz := Nat.le_trans (stepToZero_natAbs q.rampStep o) h
  have ht : ∀ g, (stepToward q.rampStep (rampAim q.pullLimit g) o).natAbs ≤ q.pullLimit :=
    fun g => stepToward_natAbs (rampAim_natAbs _ g) h
  unfold segmentOutcome restartRamp rampUpStep
  split
  · exact ht _
  · split
    · exact ht _
    · split
      · exact hz
      · split
        · exact hz
        · split
          · exact ht _
          · exact h

/-- Entering a slew state keeps everything but the slew state and its counts (08 R160, R161). -/
theorem Raster.enterSlewState_frame (r : Raster) (w : Slew) :
    r.enterSlewState w = { r with slew := w, segLines := 0, segDue := false, timer := 0, timeoutDue := false } := rfl

/-- A phase error keeps the raster but for its offset, its slew state and the position that states them (08 R162, R164). -/
theorem Raster.takePhase_frame (r : Raster) (g : Nat) (e : Int) (t : Time) :
    r.takePhase g e t = { r with
      offset := (r.takePhase g e t).offset, slew := (r.takePhase g e t).slew, pos := (r.takePhase g e t).pos
      posTime := (r.takePhase g e t).posTime, segLines := (r.takePhase g e t).segLines
      segDue := (r.takePhase g e t).segDue, timer := (r.takePhase g e t).timer
      timeoutDue := (r.takePhase g e t).timeoutDue } := by
  unfold Raster.takePhase
  split
  · rfl
  · split <;> rfl
  · split <;> rfl

theorem Raster.takePhase_offset {r : Raster} (g : Nat) (e : Int) (t : Time) (h : r.offset.natAbs ≤ r.params.pullLimit) :
    (r.takePhase g e t).offset.natAbs ≤ r.params.pullLimit := by
  unfold Raster.takePhase
  split
  · exact h
  · split
    · exact clampOffset_natAbs _ _
    · exact h
  · split <;> exact h

/-- Outside HOLD a phase error leaves TRACK or SLEW; in HOLD it is ignored (08 R160, R162, R164). -/
theorem Raster.takePhase_hold_iff (r : Raster) (g : Nat) (e : Int) (t : Time) :
    (r.takePhase g e t).slew = .hold ↔ r.slew = .hold := by
  unfold Raster.takePhase
  split <;> rename_i h
  · rfl
  · split
    · show r.slew = .hold ↔ r.slew = .hold; rfl
    · simp [h, Raster.enterSlewState]
  · split <;> simp [h, Raster.enterSlewState]

/-- A frame has at least one sixteenth when its parameters are in range. -/
theorem RasterRanges.line16_pos {r : Raster} (h : RasterRanges r) : 0 < r.line16 := by
  obtain ⟨⟨h1, _, h2, _⟩, _⟩ := h
  unfold Raster.line16 RasterParams.lineLength
  cases r.std <;> simp <;> omega

theorem frameLines_pos (std : Standard) : 0 < frameLines std := by cases std <;> decide

theorem RasterRanges.frame16_pos {r : Raster} (h : RasterRanges r) : 0 < r.frame16 := by
  have := h.line16_pos
  have hf : (0 : Int) < (frameLines r.std : Int) := by exact_mod_cast frameLines_pos r.std
  exact Int.mul_pos hf this

/-- Placing the raster puts it on a line of its frame (08 R166 item 6). -/
theorem Raster.place_line {r : Raster} (h : RasterRanges r) (n rem : Int) (t : Time) :
    (r.place n rem t).line < frameLines r.std := by
  have hl := h.line16_pos
  have hf := h.frame16_pos
  have h0 := Int.emod_nonneg (n * r.line16 + rem) (Int.ne_of_gt hf)
  have h1 : (n * r.line16 + rem) % r.frame16 < (frameLines r.std : Int) * r.line16 := Int.emod_lt_of_pos _ hf
  have h2 : (n * r.line16 + rem) % r.frame16 / r.line16 < (frameLines r.std : Int) := Int.ediv_lt_of_lt_mul hl h1
  have h3 : 0 ≤ (n * r.line16 + rem) % r.frame16 / r.line16 := Int.ediv_nonneg h0 (Int.le_of_lt hl)
  show ((n * r.line16 + rem) % r.frame16 / r.line16).toNat < frameLines r.std
  omega

/-- The phase error lies above -F/2 to F/2 and differs from the raw distance by whole frames (07 R148). -/
theorem reducePhase_spec {f : Int} (hf : 0 < f) (x : Int) :
    -f < 2 * reducePhase f x ∧ 2 * reducePhase f x ≤ f ∧ ∃ k : Int, reducePhase f x = x + k * f := by
  have h0 := Int.emod_nonneg x (Int.ne_of_gt hf)
  have h1 := Int.emod_lt_of_pos x hf
  have h2 : x % f = x + -(x / f) * f := by rw [Int.emod_def, Int.mul_comm, Int.neg_mul, Int.sub_eq_add_neg]
  simp only [reducePhase]
  split
  · refine ⟨by omega, by omega, -(x / f) - 1, ?_⟩
    rw [h2, Int.sub_mul]; omega
  · exact ⟨by omega, by omega, -(x / f), h2⟩

/-- The end of the line in progress is the first moment at which the position has run the line's length (08 R156, R159; log 5). -/
theorem Raster.lineEnd_iff {r : Raster} (h : r.offset.natAbs ≤ 4095) (e : Int) :
    e = r.lineEnd ↔
      r.line16 * 1048576 ≤ r.pos + (e - r.posTime) * (1048576 + r.offset) ∧
        r.pos + (e - 1 - r.posTime) * (1048576 + r.offset) < r.line16 * 1048576 := by
  unfold Raster.lineEnd Raster.rate ceilDiv Config.fine
  generalize r.line16 * 1048576 = l
  have hp : (0 : Int) < 1048576 + r.offset := by omega
  generalize 1048576 + r.offset = q at hp ⊢
  have h1 := Int.ediv_mul_add_emod (-(l - r.pos)) q
  have h2 := Int.emod_nonneg (-(l - r.pos)) (Int.ne_of_gt hp)
  have h3 := Int.emod_lt_of_pos (-(l - r.pos)) hp
  generalize -(l - r.pos) / q = k at h1 ⊢
  generalize (r.posTime : Int) = p
  constructor
  · rintro rfl
    constructor <;> nlinarith
  · rintro ⟨h4, h5⟩
    have h6 : (e - p + k) * q < q := by nlinarith
    have h7 : -q < (e - p + k) * q := by nlinarith
    have h8 : e - p + k < 1 := by nlinarith
    have h9 : -1 < e - p + k := by nlinarith
    show e = p + -k
    omega

/-- The output's position at a moment, of the position x in units of 2^-20 sixteenth: within the line in progress the line and the
whole sixteenths, and anywhere a line and sixteenths within the frame (08 R158; log 6). -/
theorem Raster.outAt_spec {r : Raster} (h : RasterRanges r) (t : Time) :
    (0 ≤ r.posAt t → r.posAt t < r.line16 * 1048576 → r.outAt t = { line := r.line, p := r.posAt t / 1048576 }) ∧
      (r.outAt t).line * r.line16 + (r.outAt t).p = (r.line * r.line16 + r.posAt t / 1048576) % r.frame16 ∧
      0 ≤ (r.outAt t).p ∧ (r.outAt t).p < r.line16 := by
  have hl := h.line16_pos
  have hf : r.framePos t = (r.line * r.line16 + r.posAt t / 1048576) % r.frame16 := by
    unfold Raster.framePos Config.fine
    congr 1
    rw [← Int.mul_assoc, Int.add_comm, Int.add_mul_ediv_right _ _ (by omega), Int.add_comm]
  generalize r.posAt t = x at hf ⊢
  unfold Raster.outAt
  refine ⟨fun h1 h2 => ?_, ?_, Int.emod_nonneg _ (Int.ne_of_gt hl), Int.emod_lt_of_pos _ hl⟩
  · have h3 : 0 ≤ x / 1048576 := by omega
    have h4 : x / 1048576 < r.line16 := by omega
    have h5 : ((r.line : Int) + 1) * r.line16 ≤ (frameLines r.std : Int) * r.line16 :=
      Int.mul_le_mul_of_nonneg_right (by have := h.2.2.2; omega) (Int.le_of_lt hl)
    rw [Int.add_mul] at h5
    have h6 : 0 ≤ (r.line : Int) * r.line16 := Int.mul_nonneg (by omega) (Int.le_of_lt hl)
    rw [hf, Int.emod_eq_of_lt (by omega) (by unfold Raster.frame16; omega)]
    congr 1
    · rw [Int.add_comm, Int.add_mul_ediv_right _ _ (Int.ne_of_gt hl), Int.ediv_eq_zero_of_lt h3 h4]; omega
    · rw [Int.add_comm, Int.add_mul_emod_self_right, Int.emod_eq_of_lt h3 h4]
  · rw [← hf]
    show r.framePos t / r.line16 * r.line16 + r.framePos t % r.line16 = _
    rw [Int.mul_comm]; exact Int.mul_ediv_add_emod _ _

/-- A field can end exactly at its last line (08 R156, R158). -/
theorem lastFieldLine_iff (r : Raster) : LastFieldLine r ↔ r.fieldEnds = true := by
  unfold LastFieldLine Raster.fieldEnds Raster.atFieldEnd
  cases r.std <;> simp [secondStart, frameLines] <;> tauto

/-- Counting a line touches the segment count and the segment end alone (08 R160, R163). -/
theorem Raster.countSegment_frame (r : Raster) (lock : LockState) :
    r.countSegment lock = { r with segLines := (r.countSegment lock).segLines, segDue := (r.countSegment lock).segDue } := by
  unfold Raster.countSegment
  split
  · split <;> rfl
  · rfl

end Sys2Proof.Machine
end

