-- ==== Sys2Proof/Laws/Clock.lean ====
section
/-! SUPPORT. The event counter, marks and interval timer (chapter 06): what counting keeps, and the ranges it leaves. -/

namespace Sys2Proof.Machine

/-- Counting changes the counter and the events that wait, nothing else (06 R124). -/
theorem FieldClock.drain_frame (c : FieldClock) : c.drain = { c with count := c.drain.count, handed := c.drain.handed } := rfl

theorem FieldClock.hand_frame (c : FieldClock) (es : List CountEvent) :
    c.hand es = { c with count := (c.hand es).count, handed := (c.hand es).handed } := rfl

@[simp] theorem FieldClock.hand_counter (c : FieldClock) (es : List CountEvent) : (c.hand es).counter = c.counter := rfl
@[simp] theorem FieldClock.hand_markA (c : FieldClock) (es : List CountEvent) : (c.hand es).markA = c.markA := rfl
@[simp] theorem FieldClock.hand_markB (c : FieldClock) (es : List CountEvent) : (c.hand es).markB = c.markB := rfl
@[simp] theorem FieldClock.hand_intervalLength (c : FieldClock) (es : List CountEvent) :
    (c.hand es).intervalLength = c.intervalLength := rfl
@[simp] theorem FieldClock.hand_intervalCount (c : FieldClock) (es : List CountEvent) :
    (c.hand es).intervalCount = c.intervalCount := rfl
@[simp] theorem FieldClock.hand_preset (c : FieldClock) (es : List CountEvent) : (c.hand es).preset = c.preset := rfl
@[simp] theorem FieldClock.hand_select (c : FieldClock) (es : List CountEvent) : (c.hand es).select = c.select := rfl
@[simp] theorem FieldClock.hand_haltOnCount (c : FieldClock) (es : List CountEvent) :
    (c.hand es).haltOnCount = c.haltOnCount := rfl

/-- A counter that is off stays as it was (06 R125). -/
theorem countEvents_off (sel : EventSelect) (n : Nat) (es : List CountEvent) : countEvents sel 0 n es = (n, []) := by
  induction es generalizing n with
  | nil => rfl
  | cons e es ih => simp [countEvents, ih]

/-- Counting goes down, and never to 0 (06 R125). -/
theorem countEvents_range (sel : EventSelect) (preset n : Nat) (es : List CountEvent) (h : 1 ≤ n) :
    1 ≤ (countEvents sel preset n es).1 ∧ (countEvents sel preset n es).1 ≤ n := by
  induction es generalizing n with
  | nil => exact ⟨h, Nat.le_refl n⟩
  | cons e es ih =>
    simp only [countEvents]
    split
    · split
      · exact ⟨h, Nat.le_refl n⟩
      · have := ih (n - 1) (by omega); omega
    · exact ih n h

/-- Handing events keeps the ranges of the Field Clock (06 R122, R125). -/
theorem ClockRanges.hand {c : FieldClock} (h : ClockRanges c) (es : List CountEvent) : ClockRanges (c.hand es) := by
  obtain ⟨h1, h2, h3, h4⟩ := h
  refine ⟨h1, h2, fun hp => ?_, fun hp => ?_⟩
  · have hp' : c.preset = 0 := hp
    simp only [FieldClock.hand, FieldClock.drain, hp', countEvents_off]
    exact h3 hp'
  · have hp' : c.preset ≠ 0 := hp
    have := countEvents_range c.select c.preset c.count (c.handed ++ es) (h4 hp').1
    simp only [FieldClock.hand, FieldClock.drain]
    exact ⟨this.1, Nat.le_trans this.2 (h4 hp').2⟩

/-- The interval count stays below the length (06 R122). -/
theorem ClockRanges.boundary {c : FieldClock} (h : ClockRanges c) : ClockRanges c.boundary := by
  obtain ⟨h1, h2, h3, h4⟩ := h
  refine ⟨fun hl => ?_, fun hl => ?_, h3, h4⟩
  · have hl' : c.intervalLength = 0 := hl
    simp [FieldClock.boundary, hl', h1 hl']
  · have hl' : c.intervalLength ≠ 0 := hl
    have := h2 hl'
    show (if c.intervalLength = 0 then c.intervalCount else if c.intervalEnds then 0 else c.intervalCount + 1) < c.intervalLength
    rw [if_neg hl']
    by_cases he : c.intervalLength ≤ c.intervalCount + 1
    · rw [if_pos (by simp [FieldClock.intervalEnds, hl', he])]; omega
    · rw [if_neg (by simp [FieldClock.intervalEnds, he])]; omega

/-- The field a FIELD event touches (06 R124): the clock, the attention unit, and the halts due to the sequencer. -/
theorem countField_frame (s : State) :
    countField s = { s with clock := (countField s).clock, att := (countField s).att
                            seq := { s.seq with haltsDue := (countField s).seq.haltsDue } } := by
  unfold countField counterDone
  split
  · split <;> rfl
  · rfl

/-- The FIELD event of a boundary, in the three cases of 06 R124, R125. -/
theorem countField_off {s : State} (h : s.clock.select.field = false ∨ s.clock.preset = 0) : countField s = s := by
  unfold countField; rw [if_neg]; rintro ⟨h1, h2⟩; rcases h with h | h
  · rw [h] at h1; cases h1
  · exact h2 h

theorem countField_counts {s : State} (h1 : s.clock.select.field = true) (h2 : s.clock.preset ≠ 0) (h3 : 1 < s.clock.count) :
    countField s = { s with clock := { s.clock with count := s.clock.count - 1 } } := by
  unfold countField; rw [if_pos ⟨h1, h2⟩, if_neg (by omega)]; rfl

theorem countField_done {s : State} (h1 : s.clock.select.field = true) (h2 : s.clock.preset ≠ 0) (h3 : s.clock.count ≤ 1) :
    countField s = { s with
      clock := { s.clock with count := s.clock.preset, handed := [] }.hand s.clock.handed
      att := s.att.occur .countDone
      seq := { s.seq with haltsDue := s.seq.haltsDue + (if s.clock.haltOnCount then 1 else 0) } } := by
  unfold countField; rw [if_pos ⟨h1, h2⟩, if_pos h3]; rfl

end Sys2Proof.Machine
end

