-- ==== Sys2Proof/Laws/Sequencer.lean ====
section
/-! SUPPORT. What the shared operations of the Cue Sequencer change, and that they keep the table of its states (04 R85). -/

namespace Sys2Proof.Machine

/-- A trigger touches the sequencer, the event counter and the attention unit (04 R89). -/
theorem trigger_frame (s : State) :
    trigger s = { s with seq := (trigger s).seq, clock := s.clock.hand (if s.seq.state = .waiting then [.trigger] else [])
                         att := (trigger s).att } ∨ trigger s = { s with att := (trigger s).att } := by
  unfold trigger
  split <;> rename_i h
  · exact .inr rfl
  · left; rw [if_pos h]; rfl
  · exact .inr rfl
  · exact .inr rfl
  · exact .inr rfl

@[simp] theorem trigger_port (s : State) : (trigger s).port = s.port := by unfold trigger; split <;> rfl
@[simp] theorem trigger_table (s : State) : (trigger s).table = s.table := by unfold trigger; split <;> rfl
@[simp] theorem trigger_keyer (s : State) : (trigger s).keyer = s.keyer := by unfold trigger; split <;> rfl
@[simp] theorem trigger_scenes (s : State) : (trigger s).scenes = s.scenes := by unfold trigger; split <;> rfl
@[simp] theorem trigger_rlc (s : State) : (trigger s).rlc = s.rlc := by unfold trigger; split <;> rfl
@[simp] theorem trigger_raster (s : State) : (trigger s).raster = s.raster := by unfold trigger; split <;> rfl
@[simp] theorem trigger_pending (s : State) : (trigger s).pending = s.pending := by unfold trigger; split <;> rfl
@[simp] theorem trigger_cues (s : State) : (trigger s).seq.cues = s.seq.cues := by unfold trigger; split <;> rfl
@[simp] theorem trigger_pointer (s : State) : (trigger s).seq.pointer = s.seq.pointer := by unfold trigger; split <;> rfl
@[simp] theorem trigger_counter (s : State) : (trigger s).clock.counter = s.clock.counter := by unfold trigger; split <;> rfl

/-- HALT leaves a HALTED sequencer of run count and delay 0, with nothing due (04 R85, R87). -/
theorem Sequencer.halted_table (q : Sequencer) : SequencerTable q.halted := ⟨rfl, rfl⟩

theorem Sequencer.running_table (q : Sequencer) : SequencerTable q.running := ⟨Nat.zero_le _, rfl⟩

/-- A trigger keeps the table of the sequencer's states (04 R85, R89). -/
theorem trigger_sequencerTable {s : State} (h : SequencerTable s.seq) : SequencerTable (trigger s).seq := by
  unfold trigger
  split
  · exact h
  · exact Sequencer.running_table _
  · exact h
  · exact h
  · exact h

/-- A boundary keeps the table of the sequencer's states: a delay in progress never stands at 0 (04 R85, R98). -/
theorem Sequencer.boundary_table {q : Sequencer} (h : SequencerTable q) : SequencerTable q.boundary := by
  unfold Sequencer.boundary
  split <;> rename_i hs
  · split
    · rename_i hd
      simp only [SequencerTable, hs] at h ⊢
      omega
    · simp only [SequencerTable, hs] at h ⊢
      omega
  · simp only [SequencerTable, hs] at h ⊢
    exact h
  · exact h
  · exact h
  · exact h

/-- The ending decision keeps the table of the sequencer's states (04 R85, R95): n is the run count after the cue. -/
theorem Sequencer.ending_table {q : Sequencer} {e : CueEntry} {pass : Bool} {n : Nat} (hr : q.state = .running) (hd : q.delay = 0)
    (hp : e.action = .delay → e.parameter ≠ 0) : SequencerTable (q.ending e n (endingDecision e pass q.mode n)) := by
  unfold endingDecision
  split
  · exact Sequencer.halted_table q
  · split
    · exact Sequencer.halted_table q
    · split
      · rename_i ha
        have h1 := hp ha
        refine ⟨rfl, ?_, ?_⟩
        · rcases Nat.eq_zero_or_pos e.parameter.toNat with h | h
          · exact absurd (BitVec.eq_of_toNat_eq h) h1
          · exact h
        · have := e.parameter.isLt; show e.parameter.toNat ≤ 65535; omega
      · split
        · exact ⟨rfl, rfl⟩
        · split
          · exact Sequencer.halted_table q
          · rename_i hn
            have hn' : ¬ 16 ≤ n := hn
            simp only [Sequencer.ending, SequencerTable, hr]
            exact ⟨by omega, hd⟩

/-- Items 4 to 6 of 04 R93 touch the sequencer, the event counter and the attention unit. -/
theorem finishCue_frame (s : State) (e : CueEntry) :
    finishCue s e = { s with seq := (finishCue s e).seq, clock := (finishCue s e).clock, att := (finishCue s e).att } := rfl

/-- The three ways a cue execution goes (04 R93): no amendment, an amendment posted, a stall. -/
theorem executeCue_none {s : State} (h : s.seq.entry.amendment? = none) : executeCue s = finishCue s s.seq.entry := by
  simp only [executeCue, h]

theorem executeCue_posts {s : State} {op : AmendOp} (h : s.seq.entry.amendment? = some op) (hq : s.table.queue.length < 16) :
    executeCue s = finishCue (post s (.cue s.seq.pointer) op) s.seq.entry := by
  have hr : s.table.hasRoom = true := decide_eq_true hq
  simp only [executeCue, h, hr, if_true]

theorem executeCue_stalls {s : State} {op : AmendOp} (h : s.seq.entry.amendment? = some op) (hq : 16 ≤ s.table.queue.length) :
    executeCue s = stallRun s := by
  have hn : s.table.hasRoom = false := decide_eq_false (Nat.not_lt.mpr hq)
  simp [executeCue, h, hn]

/-- One cue execution touches the queue, the sequencer, the event counter and the attention unit (04 R93), and adds at most one
amendment, none to a full queue (02 R36; 04 R99). -/
theorem executeCue_frame (s : State) :
    ∃ q, executeCue s = { s with table := { s.table with queue := q }, seq := (executeCue s).seq, clock := (executeCue s).clock
                                 att := (executeCue s).att } ∧
      (q = s.table.queue ∨ ∃ op, s.table.queue.length < 16 ∧ s.seq.entry.amendment? = some op ∧
        q = s.table.queue ++ [{ origin := .cue s.seq.pointer, op := op }]) := by
  rcases h : s.seq.entry.amendment? with _ | op
  · rw [executeCue_none h]; exact ⟨s.table.queue, rfl, .inl rfl⟩
  · rcases Nat.lt_or_ge s.table.queue.length 16 with hq | hq
    · rw [executeCue_posts h hq]; exact ⟨_, rfl, .inr ⟨op, hq, rfl, rfl⟩⟩
    · rw [executeCue_stalls h hq]; exact ⟨s.table.queue, rfl, .inl rfl⟩

end Sys2Proof.Machine
end

