-- ==== Sys2Proof/Laws/Boundary.lean ====
section
/-! SUPPORT. What each block's share of a field boundary changes, and what the whole boundary, a hard align and a line start keep
(08 R158, R166; 03 R68). -/

namespace Sys2Proof.Machine

/-! ## The shares -/

/-- The Field Clock's share touches the clock, the marks' causes, and the events due to the sequencer (06 R118 to R129). -/
theorem clockBoundary_frame (s : State) :
    clockBoundary s = { s with
      clock := (clockBoundary s).clock, att := (clockBoundary s).att
      seq := { s.seq with intervalsDue := s.seq.intervalsDue + (if s.clock.intervalEnds then 1 else 0)
                          haltsDue := (clockBoundary s).seq.haltsDue } } := by
  unfold clockBoundary
  rw [countField_frame]
  rfl

/-- FIELD events change the count alone of the clock's registers (06 R124). -/
theorem countField_clock (s : State) :
    (countField s).clock = { s.clock with count := (countField s).clock.count, handed := (countField s).clock.handed } := by
  unfold countField counterDone
  split
  · split <;> rfl
  · rfl

/-- The field number after the Field Clock's share (06 R118). -/
theorem clockBoundary_counter (s : State) : (clockBoundary s).clock.counter = s.clock.counter + 1 := by
  unfold clockBoundary
  rw [countField_clock]
  rfl

/-- The Plate Table's share (02 R38, R60): the table, the notices, the closings handed, the figures of a waiting SYNC. -/
theorem tableShare_frame (s : State) (f : FieldNo) :
    tableShare s f = { s with
      table := (tableBoundary f s.scenes s.table).table
      att := s.att.occurAll (tableBoundary f s.scenes s.table).notices
      port := { s.port with
        job := s.port.job.takeFigures f (tableBoundary f s.scenes s.table).applied (tableBoundary f s.scenes s.table).faulted }
      clock := s.clock.hand (List.replicate (tableBoundary f s.scenes s.table).closings .closing) } := by
  unfold tableShare
  generalize tableBoundary f s.scenes s.table = w
  rfl

/-- The Keyer's share (03 R63, R66). -/
theorem keyerShare_frame (s : State) (f : FieldNo) :
    keyerShare s f = { s with keyer := { s.keyer with
      visible := latchVisible s.rlc.lock s.raster.slew s.table.slots, live := s.keyer.pendingLevels, fieldNumber := f } } := rfl

/-- The sequencer's share touches the sequencer alone: its own count, and the MARK A event given (04 R88, R98, R100). -/
theorem seqShare_frame (s : State) (m : Bool) :
    seqShare s m = { s with seq := { s.seq.boundary with marksDue := s.seq.marksDue + (if m then 1 else 0) } } := rfl

/-- A boundary's own count touches neither the cue list, the settings nor the events due from the Field Clock (04 R98, R100). -/
theorem Sequencer.boundary_frame (q : Sequencer) :
    q.boundary = { q with delay := q.boundary.delay, expiryDue := q.boundary.expiryDue, resumeDue := q.boundary.resumeDue } := by
  unfold Sequencer.boundary; split
  · split <;> rfl
  all_goals rfl

/-- With no MARK A event waiting none is taken (log 8). -/
theorem settleMark_none {s : State} (h : s.seq.marksDue = 0) : settleMark s = s := if_pos h

/-- A MARK A event that waits is taken as a trigger when MARK A is a source, and otherwise takes nothing (04 R88; log 8). -/
theorem settleMark_succ {s : State} {n : Nat} (h : s.seq.marksDue = n + 1) :
    settleMark s = if s.seq.sources.markA then trigger { s with seq := { s.seq with marksDue := n } }
                   else { s with seq := { s.seq with marksDue := n } } := by
  unfold settleMark takeMark
  rw [if_neg (by omega), h]
  rfl

/-- Taking a MARK A event keeps every block but the sequencer, the event counter and the attention unit (04 R89). -/
theorem settleMark_frame (s : State) :
    settleMark s = { s with seq := (settleMark s).seq, clock := (settleMark s).clock, att := (settleMark s).att } := by
  unfold settleMark takeMark
  dsimp only
  split
  · rfl
  · split
    · unfold trigger; split <;> rfl
    · rfl

/-- The slew timer's share keeps everything but the timer (08 R165). -/
theorem Raster.countTimer_frame (r : Raster) :
    r.countTimer = { r with timer := r.countTimer.timer, timeoutDue := r.countTimer.timeoutDue } := by
  unfold Raster.countTimer; split <;> rfl

/-- Kinds added to the sync-fault set touch that set and the attention unit (07 R152). -/
theorem addFaults_frame (s : State) (k : SyncFaults) :
    addFaults s k = { s with
      rlc := { s.rlc with faults := s.rlc.faults.union k }
      att := if (s.rlc.faults.newIn k).isEmpty then s.att else s.att.occur (.syncFault (s.rlc.faults.newIn k)) } := by
  unfold addFaults
  generalize s.rlc.faults.newIn k = n
  cases hn : n.isEmpty <;> simp [hn, State.withRlc, raise, State.withAtt]

/-- A change of lock state (07 R151; 08 R160). -/
theorem changeLock_frame (s : State) (new : LockState) :
    changeLock s new = { s with
      rlc := { s.rlc with lock := new, fields := 0 }
      raster := if new = .frameLock then s.raster else s.raster.enterSlewState .hold
      att := s.att.occur (.lockChange s.rlc.lock new) } := by
  unfold changeLock
  cases new <;> rfl

/-- SEARCH entered (07 R147). -/
theorem enterSearch_frame (s : State) :
    enterSearch s = { s with
      rlc := { s.rlc.toSearch with lock := .search, fields := 0 }
      raster := s.raster.enterSlewState .hold
      att := s.att.occur (.lockChange s.rlc.lock .search) } := by
  unfold enterSearch
  rw [changeLock_frame]
  rfl

/-- The controller's share touches the controller, and at an expiry the raster's slew state and the attention unit (07 R153). -/
theorem takeShare_frame (s : State) :
    takeShare s = { s with rlc := (takeShare s).rlc, raster := (takeShare s).raster, att := (takeShare s).att } := by
  unfold takeShare
  split
  · rw [enterSearch_frame, addFaults_frame]
    rfl
  · rfl

theorem settleShare_frame (s : State) :
    settleShare s = { s with rlc := (settleShare s).rlc, raster := (settleShare s).raster, att := (settleShare s).att } := by
  unfold settleShare; split
  · exact takeShare_frame s
  · rfl

/-- Nothing is due: nothing is settled. -/
theorem settleShare_none {s : State} (h : s.rlc.shareDue = false) : settleShare s = s := by
  unfold settleShare; rw [h]; rfl

/-- At its own boundary the controller's share touches the controller alone (07 R153). -/
theorem rlcShare_frame (s : State) : rlcShare s = { s with rlc := (rlcShare s).rlc } := by
  unfold rlcShare
  split
  · rfl
  · rename_i h
    have : takeShare s = s.withRlc (s.rlc.countHoldover.finishShare s.raster) := by
      unfold takeShare; rw [if_neg h]
    rw [this]; rfl

/-! ## The whole boundary -/

@[simp] theorem takeBoundary_scenes (s : State) : (takeBoundary s).scenes = s.scenes := by
  unfold takeBoundary rasterShare
  rw [rlcShare_frame]
  dsimp only
  rw [seqShare_frame, keyerShare_frame, tableShare_frame, clockBoundary_frame, settleShare_frame]
  rfl

@[simp] theorem takeBoundary_pending (s : State) : (takeBoundary s).pending = s.pending := by
  unfold takeBoundary rasterShare
  rw [rlcShare_frame]
  dsimp only
  rw [seqShare_frame, keyerShare_frame, tableShare_frame, clockBoundary_frame, settleShare_frame]
  rfl

/-- The table after a boundary (02 R38, R60). -/
@[simp] theorem takeBoundary_table (s : State) :
    (takeBoundary s).table = (tableBoundary (s.clock.counter + 1) s.scenes s.table).table := by
  unfold takeBoundary rasterShare
  rw [rlcShare_frame]
  dsimp only
  rw [seqShare_frame, keyerShare_frame, tableShare_frame, clockBoundary_frame, settleShare_frame]
  rfl

/-- The field number after a boundary (06 R118). -/
@[simp] theorem takeBoundary_counter (s : State) : (takeBoundary s).clock.counter = s.clock.counter + 1 := by
  unfold takeBoundary rasterShare
  rw [rlcShare_frame]
  dsimp only
  rw [seqShare_frame, keyerShare_frame, tableShare_frame]
  show (clockBoundary (settleShare s)).clock.counter = _
  rw [clockBoundary_counter, settleShare_frame]

/-- The port after a boundary: only a waiting SYNC changes (09 R181). -/
theorem takeBoundary_port (s : State) :
    (takeBoundary s).port = { s.port with
      job := s.port.job.takeFigures (s.clock.counter + 1) (tableBoundary (s.clock.counter + 1) s.scenes s.table).applied
        (tableBoundary (s.clock.counter + 1) s.scenes s.table).faulted } := by
  unfold takeBoundary rasterShare
  rw [rlcShare_frame]
  dsimp only
  rw [seqShare_frame, keyerShare_frame, tableShare_frame, clockBoundary_frame, settleShare_frame]
  rfl

/-- The raster after a boundary: the slew timer, on the raster with a share of an earlier boundary settled (08 R165; log 11). -/
theorem takeBoundary_raster (s : State) : (takeBoundary s).raster = (settleShare s).raster.countTimer := by
  unfold takeBoundary rasterShare
  rw [rlcShare_frame]
  dsimp only
  rw [seqShare_frame, keyerShare_frame, tableShare_frame, clockBoundary_frame]
  rfl

/-! ## The boundary as the statements say it -/

@[simp] theorem Raster.countTimer_slew (r : Raster) : r.countTimer.slew = r.slew := by rw [r.countTimer_frame]
@[simp] theorem Raster.countTimer_offset (r : Raster) : r.countTimer.offset = r.offset := by rw [r.countTimer_frame]

/-- The controller's share at its own boundary (07 R153). -/
theorem rlcShare_eq (s : State) : rlcShare s = s.withRlc (afterShare s.rlc s.raster.slew s.raster.offset) := by
  have he : s.rlc.expires = true ↔ s.rlc.lock = .flywheel ∧ s.rlc.inForce.holdover ≠ 0 ∧
      s.rlc.inForce.holdover ≤ min (s.rlc.holdover + 1) 255 := by
    simp [RefLock.expires, RefLock.holdoverNext, and_assoc]
  unfold rlcShare afterShare takeShare
  by_cases h : s.rlc.expires = true
  · rw [if_pos h, if_pos (he.mp h)]
  · rw [if_neg h, if_neg h, if_neg (fun x => h (he.mpr x))]
    by_cases hl : s.rlc.lock = .flywheel
    · simp [RefLock.countHoldover, hl, RefLock.finishShare, RefLock.imageNow, RefLock.holdoverNext]
    · simp [RefLock.countHoldover, hl, RefLock.finishShare, RefLock.imageNow]

/-- The whole boundary, block by block (08 R158; log 36). -/
theorem takeBoundary_eq (s : State) :
    takeBoundary s =
      let f := s.clock.counter + 1
      let w := tableBoundary f s.scenes s.table
      let t := settleShare s
      let k := clockBoundary t
      { s with
        port := { s.port with job := s.port.job.takeFigures f w.applied w.faulted }
        table := w.table
        keyer := latchKeyer s.keyer t.rlc.lock t.raster.slew w.slots f
        seq := { k.seq.boundary with marksDue := k.seq.marksDue + (if s.clock.markA.matches f then 1 else 0) }
        clock := k.clock.hand (List.replicate w.closings .closing)
        att := k.att.occurAll w.notices
        raster := t.raster.countTimer
        rlc := afterShare t.rlc t.raster.slew t.raster.offset } := by
  unfold takeBoundary rasterShare
  dsimp only
  rw [rlcShare_eq, seqShare_frame, keyerShare_frame, tableShare_frame]
  generalize hk : clockBoundary (settleShare s) = k
  rw [clockBoundary_frame] at hk
  have hs := settleShare_frame s
  generalize hg : settleShare s = t at hk hs
  subst hk
  rw [hs]
  simp only [State.withRaster, State.withRlc, Raster.countTimer_slew, Raster.countTimer_offset]
  rfl

/-- The Field Clock's share in a known case of each of its tests (06 R118 to R129). -/
theorem clockBoundary_eq (s : State) {ic ends : Nat} {mA mB done : Bool} {base c : FieldClock}
    (h1 : s.clock.intervalLength = 0 → ic = s.clock.intervalCount ∧ ends = 0)
    (h2 : s.clock.intervalLength ≠ 0 → s.clock.intervalCount + 1 < s.clock.intervalLength →
      ic = s.clock.intervalCount + 1 ∧ ends = 0)
    (h3 : s.clock.intervalLength ≠ 0 → s.clock.intervalLength ≤ s.clock.intervalCount + 1 → ic = 0 ∧ ends = 1)
    (hA : mA = s.clock.markA.matches (s.clock.counter + 1)) (hB : mB = s.clock.markB.matches (s.clock.counter + 1))
    (hd : done = true ↔ s.clock.select.field = true ∧ s.clock.preset ≠ 0 ∧ s.clock.count ≤ 1)
    (hb : base = { s.clock with counter := s.clock.counter + 1, intervalCount := ic })
    (hc1 : done = true → c = { base with count := s.clock.preset, handed := [] }.hand s.clock.handed)
    (hc2 : done = false → s.clock.select.field = true → s.clock.preset ≠ 0 → c = { base with count := s.clock.count - 1 })
    (hc3 : s.clock.select.field = false ∨ s.clock.preset = 0 → c = base) :
    clockBoundary s = { s with
      clock := c
      seq := { s.seq with intervalsDue := s.seq.intervalsDue + ends
                          haltsDue := s.seq.haltsDue + (if done && s.clock.haltOnCount then 1 else 0) }
      att := s.att.occurAll ((if mA then [.markA (s.clock.counter + 1)] else []) ++
        (if mB then [.markB (s.clock.counter + 1)] else []) ++ (if done then [.countDone] else [])) } := by
  have hI : ic = s.clock.boundary.intervalCount ∧ ends = if s.clock.intervalEnds then 1 else 0 := by
    unfold FieldClock.boundary FieldClock.intervalEnds
    by_cases hz : s.clock.intervalLength = 0
    · have := h1 hz; simp [hz, this]
    · by_cases hl : s.clock.intervalLength ≤ s.clock.intervalCount + 1
      · have := h3 hz hl; simp [hz, hl, this]
      · have := h2 hz (by omega); simp [hz, hl, this]
  have hbase : base = s.clock.boundary := by rw [hb, hI.1]; rfl
  subst hbase hA hB
  rw [hI.2]
  unfold clockBoundary markDetails
  dsimp only
  by_cases hf : s.clock.select.field = true ∧ s.clock.preset ≠ 0
  · by_cases hn : s.clock.count ≤ 1
    · have hdt : done = true := hd.mpr ⟨hf.1, hf.2, hn⟩
      rw [countField_done (by exact hf.1) (by exact hf.2) (by exact hn)]
      rw [hc1 hdt, hdt]
      simp only [raiseAll, State.withSeq, State.withClock, State.withAtt, Attention.occurAll, List.foldl_append, Bool.true_and,
        if_true, List.foldl_cons, List.foldl_nil]
      rfl
    · have hdf : done = false := by
        cases hq : done
        · rfl
        · exact absurd (hd.mp hq).2.2 hn
      rw [countField_counts (by exact hf.1) (by exact hf.2) (by exact Nat.lt_of_not_le hn)]
      rw [hc2 hdf hf.1 hf.2, hdf, Bool.false_and, if_neg Bool.false_ne_true, if_neg Bool.false_ne_true, List.append_nil]
      rfl
  · have hdf : done = false := by
      cases hq : done
      · rfl
      · exact absurd ⟨(hd.mp hq).1, (hd.mp hq).2.1⟩ hf
    have hx : s.clock.select.field = false ∨ s.clock.preset = 0 := by
      by_cases hx : s.clock.select.field = true
      · right; by_contra hp; exact hf ⟨hx, hp⟩
      · left; simpa using hx
    rw [countField_off (by exact hx)]
    rw [hc3 hx, hdf, Bool.false_and, if_neg Bool.false_ne_true, if_neg Bool.false_ne_true, List.append_nil]
    rfl

/-- What waits from the Field Clock does not enter the sequencer's own count. -/
theorem Sequencer.boundary_due (q : Sequencer) (a b : Nat) :
    { q with intervalsDue := a, haltsDue := b }.boundary = { q.boundary with intervalsDue := a, haltsDue := b } := by
  unfold Sequencer.boundary
  cases h : q.state
  all_goals simp only [h]
  all_goals split
  all_goals simp_all

/-- A boundary is taken by every block as the statements say (08 R158). -/
theorem takeBoundary_taken (s : State) : BoundaryTaken s (takeBoundary s) (takeBoundary s).att := by
  rintro t f w rfl rfl rfl
  have hs := settleShare_frame s
  refine ⟨takeBoundary_scenes s, takeBoundary_pending s, ?_, takeBoundary_table s, ⟨?_, ?_, ?_⟩, ?_, ?_⟩
  · intro ic ends mA mB done base c h1 h2 h3 hA hB hd hb hc1 hc2 hc3
    have hA' : mA = s.clock.markA.matches (s.clock.counter + 1) := by rw [Bool.eq_iff_iff, hA]; simp [Mark.matches]
    have hB' : mB = s.clock.markB.matches (s.clock.counter + 1) := by rw [Bool.eq_iff_iff, hB]; simp [Mark.matches]
    have hcb := clockBoundary_eq (settleShare s) (ic := ic) (ends := ends) (mA := mA) (mB := mB) (done := done) (base := base)
      (c := c) (by rw [hs]; exact h1) (by rw [hs]; exact h2) (by rw [hs]; exact h3) (by rw [hs]; exact hA')
      (by rw [hs]; exact hB') (by rw [hs]; exact hd) (by rw [hs]; exact hb) (by rw [hs]; exact hc1) (by rw [hs]; exact hc2)
      (by rw [hs]; exact hc3)
    rw [takeBoundary_eq]
    dsimp only
    rw [hcb]
    refine ⟨rfl, ?_, ?_⟩
    · dsimp only
      rw [Sequencer.boundary_due, hs, hA']
    · rw [hs]; simp [Attention.occurAll, List.foldl_append]
  · rw [takeBoundary_port]
  · intro h; rw [takeBoundary_port, h]; rfl
  · intro h; rw [takeBoundary_port]
    revert h; cases s.port.job with
    | idle => intro _; rfl
    | list l => intro _; rfl
    | sync g => cases g with
      | none => intro h; exact absurd rfl h
      | some g => intro _; rfl
  · have hk := congrArg State.keyer (takeBoundary_eq s)
    dsimp only at hk
    rw [hk]
    generalize (tableBoundary (s.clock.counter + 1) s.scenes s.table).slots = ts
    generalize s.clock.counter + 1 = f
    refine ⟨rfl, latchVisible_pairwise _ _ _, fun v => ?_⟩
    rw [latchKeyer, mem_latchVisible]
    simp only [isVisible_iff]
    constructor
    · rintro ⟨i, p, hp, ⟨ha, hm, hh⟩, rfl⟩; exact ⟨i, p, hp, ha, hm, hh, rfl⟩
    · rintro ⟨i, p, hp, ha, hm, hh, rfl⟩; exact ⟨i, p, hp, ⟨ha, hm, hh⟩, rfl⟩
  · have hk := congrArg State.rlc (takeBoundary_eq s)
    exact hk

/-! ## Hard aligns -/

/-- The new position of a hard align as the statements say it (08 R166 item 1). -/
theorem alignPosition_spec (c : RefLock) (t : Time) : NewPosition c t (alignPosition c t).line (alignPosition c t).p := by
  refine ⟨fun h => ?_, fun std f h1 h2 => ⟨fun h => ?_, fun h => ?_⟩⟩
  · rcases h with h | h <;> simp [alignPosition, h]
  · simp [alignPosition, h, h1, h2, lockedPosition, advanceBy, refFrameLine]
  · simp [alignPosition, h, h1, h2, carriedPosition, advanceBy, refFrameLine]

/-- Settling a share of an earlier boundary leaves a raster that a hard align has settled as it is. -/
theorem settleShare_alignStart (s : State) (std : Standard) (k : Keyer) :
    (settleShare ((s.withRaster (s.raster.alignStart s.rlc.lock std)).withKeyer k)).raster = s.raster.alignStart s.rlc.lock std := by
  unfold settleShare
  split
  · unfold takeShare
    split
    · rename_i h
      have hl : s.rlc.lock = .flywheel := by
        have h' : s.rlc.expires = true := h
        simp [RefLock.expires] at h'
        exact h'.1.1
      rw [enterSearch_frame, addFaults_frame]
      simp [Raster.alignStart, Raster.enterSlewState, alignSlew, hl, Raster.lowerReset, Raster.releaseReset]
    · rfl
  · rfl

/-- A settled raster is not in SLEW: its timer does not count (08 R165). -/
theorem Raster.alignStart_countTimer (r : Raster) (lock : LockState) (std : Standard) :
    (r.alignStart lock std).countTimer = r.alignStart lock std := by
  unfold Raster.countTimer
  by_cases hl : lock = .frameLock <;>
    simp [Raster.alignStart, Raster.enterSlewState, alignSlew, hl, Raster.lowerReset, Raster.releaseReset]

/-- What the raster and the attention unit become after the boundary is no part of it. -/
theorem BoundaryTaken.placed {s u : State} {a : Attention} (h : BoundaryTaken s u a) (r : Raster) (d : Detail) :
    BoundaryTaken s (raise (u.withRaster r) d) a := fun t f w ht hf hw => h t f w ht hf hw

/-- A hard align does what the statements say (08 R166). -/
theorem hardAlign_aligned (s : State) (cause : AlignCause) (t : Time) :
    Aligned s (hardAlign s cause t) cause (alignStandard s cause) t := by
  have hb := takeBoundary_taken
    ((s.withRaster (s.raster.alignStart s.rlc.lock (alignStandard s cause))).withKeyer s.keyer.endLine)
  have hr : (takeBoundary ((s.withRaster (s.raster.alignStart s.rlc.lock (alignStandard s cause))).withKeyer
      s.keyer.endLine)).raster = s.raster.alignStart s.rlc.lock (alignStandard s cause) := by
    rw [takeBoundary_raster, settleShare_alignStart, Raster.alignStart_countTimer]
  unfold hardAlign
  dsimp only [State.withRaster_keyer]
  generalize hu : takeBoundary ((s.withRaster (s.raster.alignStart s.rlc.lock (alignStandard s cause))).withKeyer
    s.keyer.endLine) = u at hb hr
  refine ⟨(alignPosition s.rlc t).line, (alignPosition s.rlc t).p, s.raster.alignStart s.rlc.lock (alignStandard s cause), u.att,
    alignPosition_spec _ _, rfl, hb.placed _ _, ?_, rfl⟩
  rw [← hr]
  rfl

/-! ## The entry decision (08 R161) -/

theorem entrySteer_captured {s : State} {e : Int} (h : e.natAbs ≤ 16 * s.raster.params.captureWindow) (t : Time) :
    entrySteer s e t = s.withRaster (s.raster.enterSlewState .track) := by
  unfold entrySteer; rw [if_pos (show s.raster.captures e = true from decide_eq_true h)]

theorem entrySteer_quick {s : State} {e : Int} (h : 16 * s.raster.params.captureWindow < e.natAbs)
    (hq : s.raster.params.quickAlign = true) (hv : s.keyer.visible = []) (t : Time) :
    entrySteer s e t = hardAlign s .quickAlign t := by
  unfold entrySteer
  rw [if_neg (fun h' : s.raster.captures e = true => absurd (of_decide_eq_true h') (by omega)), if_pos (by simp [hq, hv])]

theorem entrySteer_ramps {s : State} {e : Int} (h : 16 * s.raster.params.captureWindow < e.natAbs)
    (hq : ¬ (s.raster.params.quickAlign = true ∧ s.keyer.visible = [])) (t : Time) :
    entrySteer s e t = s.withRaster (s.raster.enterSlewState (.slew (startRamp e))) := by
  unfold entrySteer
  rw [if_neg (fun h' : s.raster.captures e = true => absurd (of_decide_eq_true h') (by omega)), if_neg (by simpa using hq)]

/-! ## Line starts -/

/-- Taking a line start touches the raster, the Keyer and SPAN OVERFLOW (03 R68; 08 R157). -/
theorem takeLineStart_frame (s : State) :
    takeLineStart s = { s with raster := (takeLineStart s).raster, keyer := (takeLineStart s).keyer
                               att := (takeLineStart s).att } := rfl

/-- Settling a segment touches the raster alone, and nothing when none is due (log 12). -/
theorem settleSegments_none {s : State} (h : s.raster.segDue = false) : settleSegments s = s := by
  unfold settleSegments Raster.settleSegment; rw [h]; rfl

/-- A power-on leaves every block as State.reset has it (08 R171). -/
theorem execPowerOnReset_eq (s : State) : execPowerOnReset s = .next (State.reset.withPending s.pending) := rfl

end Sys2Proof.Machine
end

