-- ==== Sys2Proof/Laws/Lock.lean ====
section
/-! SUPPORT. What the line and field bookkeeping of the Reference Lock Controller changes, and its tests as the statements say
them (chapter 07). -/

namespace Sys2Proof.Machine

/-- The setting allows what it does not forbid (07 R132). -/
theorem StandardSetting.allows_iff (z : StandardSetting) (std : Standard) : z.allows std = true ↔ ¬ Forbids z std := by
  cases z <;> cases std <;> simp [StandardSetting.allows, Forbids]

/-- A spacing near the nominal period, as bounds (07 R137). -/
theorem nearPeriod_iff (q : RasterParams) {w : Int} (sp : Int) (std : Standard) (h : 0 ≤ w) :
    nearPeriod q w sp std = true ↔ NearNominal q w std sp := by
  unfold nearPeriod NearNominal nominal16
  rw [decide_eq_true_iff]
  omega

theorem RefLock.window16_nonneg (c : RefLock) : 0 ≤ c.window16 := by
  unfold RefLock.window16; omega

/-- The moment lies in the window, as bounds (07 R138). -/
theorem RefLock.inWindow_iff {c : RefLock} {p : Int} (h : c.prediction = some p) (t : Int) :
    c.inWindow t = true ↔ p - c.window16 ≤ t ∧ t ≤ p + c.window16 := by
  have hw := c.window16_nonneg
  unfold RefLock.inWindow
  rw [h]
  generalize c.window16 = w at hw
  show decide ((t - p).natAbs ≤ w.toNat) = true ↔ _
  rw [decide_eq_true_iff]
  constructor
  · intro e; constructor <;> omega
  · intro e; omega

/-! ## Entering a line -/

/-- Entering the predicted line touches the line's own bookkeeping, the field and the pair alone (07 R138, R139, R141). -/
theorem RefLock.enterLine_frame (c : RefLock) :
    c.enterLine = { c with
      entered := true, windowSync := none, lineOut := none, sinceGood := c.sinceGood + 1
      fieldLength := c.enterLine.fieldLength, field := c.enterLine.field, pair := c.enterLine.pair } := rfl

theorem RefLock.ensureEntered_frame (c : RefLock) :
    c.ensureEntered = { c with
      entered := true, windowSync := c.ensureEntered.windowSync, lineOut := c.ensureEntered.lineOut
      sinceGood := c.ensureEntered.sinceGood, fieldLength := c.ensureEntered.fieldLength, field := c.ensureEntered.field
      pair := c.ensureEntered.pair } := by
  unfold RefLock.ensureEntered
  split
  · rename_i h; rw [← h]
  · rfl

theorem RefLock.ensureEntered_of {c : RefLock} (h : c.entered = true) : c.ensureEntered = c := by
  simp [RefLock.ensureEntered, h]

/-- Entering the predicted line twice is entering it once (07 R138). -/
theorem RefLock.enterLine_ensureEntered {c : RefLock} (h : c.entered = false) : c.enterLine.ensureEntered = c.ensureEntered := by
  simp [RefLock.ensureEntered, h, RefLock.enterLine]

/-- A sync taken in the window (07 R138). -/
theorem RefLock.takeWindowSync_frame (c : RefLock) (t : Time) (z : OutPos) :
    c.takeWindowSync t z = { c with
      entered := true, windowSync := some t, goodTime := t, sinceGood := 0, lineOut := some z, goodOut := z
      fieldLength := c.ensureEntered.fieldLength, field := c.ensureEntered.field, pair := c.ensureEntered.pair } := by
  unfold RefLock.takeWindowSync
  rw [c.ensureEntered_frame]

/-- A line decided touches the line bookkeeping, the period and the miss count alone (07 R138, R143). -/
theorem RefLock.decideLine_frame (c : RefLock) :
    c.decideLine = { c with
      lineTime := c.decideLine.lineTime, lineGood := c.decideLine.lineGood, period := c.decideLine.period
      missCount := c.decideLine.missCount, prediction := c.decideLine.prediction, nominalNext := none, entered := false
      windowSync := c.decideLine.windowSync } := by
  unfold RefLock.decideLine
  split <;> rfl

/-- A new nominal period touches the prediction, or the period for the next one, alone (08 R170; log 37). -/
theorem RefLock.repredict_frame (c : RefLock) (q q' : RasterParams) :
    c.repredict q q' = { c with prediction := (c.repredict q q').prediction, nominalNext := (c.repredict q q').nominalNext } := by
  unfold RefLock.repredict
  split
  · split
    · rfl
    · split <;> rfl
  · rfl

/-- A new nominal period takes no prediction away (08 R170). -/
theorem RefLock.repredict_isSome {c : RefLock} (h : c.prediction.isSome = true) (q q' : RasterParams) :
    (c.repredict q q').prediction.isSome = true := by
  unfold RefLock.repredict
  split
  · split
    · exact h
    · split
      · exact h
      · rfl
  · exact h

/-- Entry to FLYWHEEL touches the line bookkeeping and the counters that R144 names: the prediction runs on from the last line's time
at the measured period (07 R144; log 38). -/
theorem RefLock.toFlywheel_frame (c : RefLock) :
    c.toFlywheel = { c with
      lineTime := c.currentTime, lineGood := if c.entered then c.windowSync.isSome else c.lineGood, entered := false
      windowSync := if c.entered then none else c.windowSync, prediction := some (c.currentTime + c.period), nominalNext := none
      holdover := 0, goodCount := 0, waiting := false } := by
  by_cases h : c.entered = true
  · simp [RefLock.toFlywheel, RefLock.restartHoldover, RefLock.runOn, RefLock.settleLine, h]
  · simp [RefLock.toFlywheel, RefLock.restartHoldover, RefLock.runOn, RefLock.settleLine, RefLock.currentTime, h]

/-- A decided line leaves a prediction (07 R138). -/
theorem RefLock.decideLine_prediction (c : RefLock) : c.decideLine.prediction.isSome = true := by
  unfold RefLock.decideLine
  split <;> rfl

/-! ## Fields -/

theorem expectedLines_pos (std : Standard) (id : FieldId) : 0 < expectedLines std id := by
  cases std <;> cases id <;> decide

/-- The field one line on has counted fewer lines than its expected length (07 R141). -/
theorem RefField.nextLine_count (f : RefField) (std : Standard) : (f.nextLine std).count < expectedLines std (f.nextLine std).id := by
  unfold RefField.nextLine
  split
  · exact expectedLines_pos std _
  · rename_i h; simpa using h

/-- Entering a line keeps a field in progress (07 R141). -/
theorem FieldInProgress.enterLine {c : RefLock} (h : FieldInProgress c) : FieldInProgress c.enterLine := by
  obtain ⟨std, f, h1, h2, _⟩ := h
  exact ⟨std, f.nextLine std, h1, by simp [RefLock.enterLine, RefLock.fieldAfterLine, h1, h2], f.nextLine_count std⟩

theorem FieldInProgress.ensureEntered {c : RefLock} (h : FieldInProgress c) : FieldInProgress c.ensureEntered := by
  unfold RefLock.ensureEntered
  split
  · exact h
  · exact h.enterLine

/-- A field sync leaves a field that has counted fewer lines than its expected length (07 R141). -/
theorem takeFieldSync_count (std : Standard) (last : Nat) {f : RefField} (h : f.count < expectedLines std f.id) :
    (takeFieldSync std last f).field.count < expectedLines std (takeFieldSync std last f).field.id := by
  unfold takeFieldSync
  split
  · exact h
  · split
    · exact expectedLines_pos std _
    · exact expectedLines_pos std _

/-- The phase error, reduced (07 R148). -/
theorem phaseError_spec {r : Raster} (h : RasterRanges r) (n : Int) (z : OutPos) :
    ∃ k : Int, phaseError r n z = (n - z.line) * r.line16 - z.p + k * r.frame16 ∧
      -r.frame16 < 2 * phaseError r n z ∧ 2 * phaseError r n z ≤ r.frame16 := by
  have hf := h.frame16_pos
  unfold phaseError reducePhase
  generalize (n - z.line) * r.line16 - z.p = x
  have h1 := Int.emod_nonneg x (Int.ne_of_gt hf)
  have h2 := Int.emod_lt_of_pos x hf
  have h3 := Int.emod_add_mul_ediv x r.frame16
  dsimp only
  split
  · exact ⟨-(x / r.frame16) - 1, by linarith [Int.mul_comm r.frame16 (x / r.frame16)], by omega, by omega⟩
  · exact ⟨-(x / r.frame16), by linarith [Int.mul_comm r.frame16 (x / r.frame16)], by omega, by omega⟩

/-- The recorded lines and sixteenths make up the error again (07 R148). -/
theorem RefLock.recordPhase_sum (c : RefLock) (l e : Int) :
    (c.recordPhase l e).phaseLines * l + (c.recordPhase l e).phaseSixteenths = e := by
  simp only [RefLock.recordPhase]
  have := Int.tmod_add_mul_tdiv e l
  linarith [Int.mul_comm l (e.tdiv l)]

end Sys2Proof.Machine
end

