-- ==== Sys2Proof/Laws/Requests.lean ====
section
/-! SUPPORT. What a request that stands ready at the head of the FIFO does, and when one waits. -/

namespace Sys2Proof.Machine

/-- A length of at most 30 survives its byte. -/
theorem byteOf_toNat {n : Nat} (h : n ≤ 255) : (byteOf n).toNat = n := by
  simp only [byteOf, BitVec.toNat_ofNat]; omega

/-- The head of the FIFO parses as the request that stands there (09 R174). -/
theorem framed_head (c : Byte) (ops rest : List Byte) (h : ops.length ≤ 30) :
    framed (c :: byteOf ops.length :: (ops ++ rest)) = some (c, ops) := by
  have hn : (byteOf ops.length).toNat = ops.length := byteOf_toNat (by omega)
  simp [framed, hn, Config.maxOperands, h]

/-- Taking the request's bytes leaves the bytes behind it. -/
theorem consume_head {s : State} {c : Byte} {n : Nat} {ops rest : List Byte} (h : RequestReady s c n ops rest) :
    consume s (ops.length + 2) = s.withPort { s.port with requests := rest } := by
  obtain ⟨h1, _, _⟩ := h
  simp [consume, h1]

/-- A ready request of an allowed length executes (09 R177, R178). -/
theorem withRequest_ready (r : ReqInfo) (k : List Byte → State → State) {s : State} {ops rest : List Byte}
    (h : RequestReady s r.code r.largest ops rest) (h30 : ops.length ≤ 30) (hl : ops.length ∈ r.lengths) :
    withRequest r k s = k ops (s.withPort { s.port with requests := rest }) := by
  have hc := consume_head h
  obtain ⟨h1, h2, h3⟩ := h
  have hr : s.port.ready r.largest = true := by
    have hroom : r.largest ≤ s.port.room := by simp only [Port.room, Config.replyFifoSize]; omega
    simp [Port.ready, h2, Job.busy, hroom]
  simp only [withRequest, h1, framed_head _ _ _ h30, hr]
  simp [hl, hc]

/-- A ready request of a length the table does not allow is answered BAD LENGTH (09 R178). -/
theorem withRequest_badLength (r : ReqInfo) (k : List Byte → State → State) {s : State} {ops rest : List Byte}
    (h : RequestReady s r.code r.largest ops rest) (h30 : ops.length ≤ 30) (hl : ops.length ∉ r.lengths) :
    withRequest r k s = answered s rest replyBadLength [] := by
  have hc := consume_head h
  obtain ⟨h1, h2, h3⟩ := h
  have hr : s.port.ready r.largest = true := by
    have hroom : r.largest ≤ s.port.room := by simp only [Port.room, Config.replyFifoSize]; omega
    simp [Port.ready, h2, Job.busy, hroom]
  simp only [withRequest, h1, framed_head _ _ _ h30, hr]
  simp [hl, hc, reply, answered, State.withPort]

/-- The reply of a request whose bytes have left the FIFO. -/
theorem reply_consumed (s : State) (rest : List Byte) (code : Byte) (body : List Byte) :
    reply (s.withPort { s.port with requests := rest }) code body = answered s rest code body := rfl

/-- Operands that pass check 3 let the request go on; others are answered BAD OPERAND (09 R178). -/
@[simp] theorem withOperands_true (k : State → State) (s : State) : withOperands true k s = k s := rfl
@[simp] theorem withOperands_false (k : State → State) (s : State) :
    withOperands false k s = reply s replyBadOperand [] := rfl

/-- Every request of the code table runs through withRequest with its row, and answers BAD OPERAND when check 3 fails
(09 R177, R178). -/
theorem request_exec (i : Instr) (r : ReqInfo) (h : requestOf i = some r) :
    ∃ k, (∀ s, exec i s = .next (withRequest r k s)) ∧ 2 ≤ r.largest ∧
      ∀ ops rest s, ops.length ∈ r.lengths → operandsOk s ops i = false →
        k ops (s.withPort { s.port with requests := rest }) = answered s rest replyBadOperand [] := by
  cases i <;> simp [requestOf] at h <;> subst h <;> refine ⟨_, fun s => rfl, by decide, ?_⟩ <;> intro ops rest s hl hok <;>
    simp only [operandsOk] at hok <;>
    first
    | (exfalso; revert hok; simp; done)
    | (unfold probe
       change withOperands (decide (op16 ops 0 < pictureRows s.raster.std) && decide (op16 ops 2 < s.raster.width)) _ _ = _
       rw [hok]; rfl)
    | (simp only [selectSource, setProfile, setInput, setStandard, setRaster, setMark, setInterval, setCounter, postPlace,
         postAmend, postTag, postGroupClose, postGroupMove, postSetPinned, query, beginList, setLevels, setKeying,
         writeCues, readCues, setSequencer, start, doCue, saveScene, recallScene, clearScene, sceneOk]
       rw [hok]; rfl)

end Sys2Proof.Machine
end

