-- ==== Sys2Proof/Laws/Port.lean ====
section
/-! SUPPORT. Port control writes and the conditions under which a request begins (09 R177, R183 to R185). -/

namespace Sys2Proof.Machine

/-- A request may begin exactly with no LIST or SYNC in progress and room for its largest reply (09 R177). -/
theorem Port.ready_iff (p : Port) (n : Nat) : p.ready n = true ↔ p.job = .idle ∧ n ≤ 64 - p.replies.length := by
  have hr : p.room = 64 - p.replies.length := rfl
  unfold Port.ready
  rw [Bool.and_eq_true, Bool.not_eq_true', decide_eq_true_iff, hr]
  constructor
  · rintro ⟨h1, h2⟩
    refine ⟨?_, h2⟩
    revert h1; cases p.job <;> simp [Job.busy]
  · rintro ⟨h1, h2⟩; exact ⟨by rw [h1]; rfl, h2⟩

/-- SOFT RESET by bit 1 (09 R184). -/
theorem portControl_softReset {ctl : Byte} (h : ctl.getLsbD 1 = true) (s : State) : portControl ctl s = softResetAll s := by
  unfold portControl; rw [if_pos h]

/-- ABORT by bit 0 with bit 1 clear (09 R183). -/
theorem portControl_abort {ctl : Byte} (h0 : ctl.getLsbD 0 = true) (h1 : ctl.getLsbD 1 = false) (s : State) :
    portControl ctl s = abortPort s := by
  unfold portControl; rw [if_neg (by rw [h1]; decide), if_pos h0]

/-- No effect with both bits clear (09 R185). -/
theorem portControl_none {ctl : Byte} (h0 : ctl.getLsbD 0 = false) (h1 : ctl.getLsbD 1 = false) (s : State) :
    portControl ctl s = s := by
  unfold portControl; rw [if_neg (by rw [h1]; decide), if_neg (by rw [h0]; decide)]

/-- A request that may not begin waits, and nothing changes (09 R177; log 2). -/
theorem withRequest_waits (r : ReqInfo) (k : List Byte → State → State) (s : State)
    (h : ∀ c ops, framed s.port.requests = some (c, ops) → ¬ (c = r.code ∧ s.port.ready r.largest = true)) :
    withRequest r k s = s := by
  unfold withRequest
  split
  · rfl
  · rename_i c ops hf; rw [if_neg (h c ops hf)]

/-- The queue has room exactly below 16 entries (02 R33). -/
theorem PlateTable.hasRoom_iff (t : PlateTable) : t.hasRoom = true ↔ t.queue.length < 16 := by
  unfold PlateTable.hasRoom; rw [decide_eq_true_iff]; rfl

end Sys2Proof.Machine
end

