-- ==== Sys2Proof/WellFormed.lean ====
section
/-! DEFINITION. Which commands are well formed: the byte or the location fits the row. -/

namespace Sys2Proof

/-- A command is well formed when its operand is one the row is about. ABORT is a port control write with bit 0 set and bit 1
clear (09 R183), SOFT RESET one with bit 1 set (09 R184), a clearing write goes to location 2 or 3 (10 R190). The other rows
take every value of their operands. -/
def Instr.wellFormed : Instr → Bool
  | .abort ctl => ctl.getLsbD 0 && !ctl.getLsbD 1
  | .softReset ctl => ctl.getLsbD 1
  | .attentionClear loc _ => loc == 2#2 || loc == 3#2
  | .powerOnReset => true
  | .requestByteWrite _ => true
  | .replyByteRead => true
  | .unknownRequest => true
  | .unframeableRequest => true
  | .selectSource => true
  | .setProfile => true
  | .setInput => true
  | .setStandard => true
  | .setRaster _ => true
  | .alignNow _ => true
  | .readTiming => true
  | .setFieldCount => true
  | .setMark => true
  | .setInterval => true
  | .setCounter => true
  | .readCounters => true
  | .place => true
  | .amend => true
  | .showPlate => true
  | .close => true
  | .drop => true
  | .groupClose => true
  | .groupMove => true
  | .setPinned => true
  | .query => true
  | .probe => true
  | .list => true
  | .listSlotExamine => true
  | .listResume => true
  | .listEnd => true
  | .setLevels => true
  | .setKeying => true
  | .writeCues => true
  | .readCues => true
  | .setSequencer => true
  | .start => true
  | .halt => true
  | .step => true
  | .doCue => true
  | .saveScene => true
  | .recallScene => true
  | .clearScene => true
  | .readScenes => true
  | .sync => true
  | .fieldReport => true
  | .setEnables => true
  | .readAttention => true
  | .cueInEdge => true
  | .cueExecution => true
  | .stallResumption => true
  | .delayExpiry => true
  | .fieldBoundary => true
  | .intervalExpiry => true
  | .countDone => true
  | .haltOnCount => true
  | .holdoverExpiry => true
  | .slewTimeout => true
  | .lineStart => true
  | .segmentEnd => true
  | .holdDecaySegment => true
  | .lineSync _ _ => true
  | .lineWindowClose => true
  | .fieldSync _ _ _ => true
  | .flywheelPredictedLine => true

end Sys2Proof
end

