-- ==== Sys2Proof/Tests/Slice0.lean ====
section
/-! SUPPORT. The model's own tests: ill-formed commands that are refused, examples worked in the spec, and for each statement a
state that meets its hypotheses, clause by clause. -/

namespace Sys2Proof.Machine.Tests

/-! ## Helpers -/

/-- The state after one command, s itself if the command does not answer a next state. -/
def after (c : Instr) (s : State) : State :=
  match exec c s with
  | .next t => t
  | .fault _ => s
  | .refused _ => s

/-- The state with its raster within this line, the line's start taken. -/
def standing (s : State) (line : Nat) : State := { s with raster := { s.raster with line := line, startDue := false } }

/-- The state after the natural end of a field, its last line in progress. -/
def boundary (s : State) : State := after .fieldBoundary (standing s 312)

/-- Power-on with the bytes of one request in the request FIFO. -/
def asked (s : State) (c : Byte) (ops : List Byte) : State :=
  { s with port := { s.port with requests := c :: byteOf ops.length :: ops } }

/-- A record of a box plate with no rates, no stops and no lifetime. -/
def box (tag : Byte) (layer : Nat) (top left : Int) (height width : Nat) : HostFields :=
  { tag := tag, group := 0, layer := layer, top := top, left := left, height := height, width := width, keyMode := .box
    transIndex := none, mixTarget := 16, fadeStep := 0, start := .now, lifetime := 0, rowRate := 0, colRate := 0
    stopRow := none, stopCol := none, notify := { shown := false, closed := false, stopped := false }, holdInSlew := false
    closeAtStop := false }

/-- A SHOWN plate of the record. -/
def shown (h : HostFields) : Plate :=
  { toHostFields := h, state := .shown, mix := h.mixTarget, fadePhase := 0, held := false, new := false }

def withPlates (s : State) (l : List (Slot × Plate)) : State :=
  { s with table := { s.table with slots := l.foldl (fun ts e => putSlot ts e.1 (some e.2)) s.table.slots } }

/-! ## Well-formedness -/

theorem test_abort_with_bit1_refused : (Instr.abort 0x03#8).wellFormed = false := by decide
theorem test_abort_without_bit0_refused : (Instr.abort 0xFC#8).wellFormed = false := by decide
theorem test_softReset_without_bit1_refused : (Instr.softReset 0xFD#8).wellFormed = false := by decide
theorem test_clear_at_location0_refused : (Instr.attentionClear 0#2 0xFF#8).wellFormed = false := by decide
theorem test_clear_at_location1_refused : (Instr.attentionClear 1#2 0xFF#8).wellFormed = false := by decide
theorem test_well_formed_accepted :
    (Instr.abort 0x01#8).wellFormed = true ∧ (Instr.softReset 0x03#8).wellFormed = true ∧
      (Instr.attentionClear 2#2 0x00#8).wellFormed = true ∧ (Instr.attentionClear 3#2 0xFF#8).wellFormed = true := by decide

/-! ## Examples of the spec -/

/-- 02, ONE BOUNDARY'S QUEUE: the table before boundary 500. -/
def queueTable : PlateTable :=
  { slots := (withPlates State.reset
      [(0, shown (box 3 3 20 600 40 100)),
       (4, shown { box 7 1 400 100 40 200 with group := 2, fadeStep := 1,
                                               notify := { shown := false, closed := true, stopped := false } }),
       (6, { shown { box 12 1 300 100 40 200 with group := 1, fadeStep := 2 } with state := .closing, mix := 5, fadePhase := 1 }),
       (9, shown { box 15 1 460 100 20 200 with group := 2 })]).table.slots
    pinned := 2, rotation := 20
    queue := [⟨.request, .drop 7⟩, ⟨.request, .place none { box 7 1 400 100 40 200 with group := 2 }⟩,
              ⟨.request, .place none (box 7 0 100 0 20 100)⟩, ⟨.cue 33, .mix 12 16⟩, ⟨.cue 34, .groupMove 2 30 0⟩,
              ⟨.request, .showPlate 7⟩] }

/-- What the tests look at of a plate. -/
structure Seen where
  tag : Byte
  state : PlateState
  top : Int
  left : Int
  mix : Nat
  fadePhase : Nat
  held : Bool
  deriving DecidableEq

def seen (ts : Slots) (i : Slot) : Option Seen :=
  (slotAt ts i).map fun p => ⟨p.tag, p.state, p.top, p.left, p.mix, p.fadePhase, p.held⟩

theorem test_one_boundary_queue_counts :
    (fun w : TableWork => (w.applied, w.faulted, w.closings, w.rotation, w.notices)) (tableBoundary 500 State.reset.scenes queueTable) =
      (3, 3, 1, 19, [.plateClosed 7, .applyFault .place 7 .tagInUse .request, .applyFault .mix 12 .closing (.cue 33),
                     .applyFault .showPlate 7 .notArmed .request]) := by decide +kernel

theorem test_one_boundary_queue_slots :
    (fun ts => (seen ts 2, seen ts 4, seen ts 6, seen ts 9)) (tableBoundary 500 State.reset.scenes queueTable).slots =
      (some ⟨7, .shown, 430, 100, 16, 0, false⟩, none, some ⟨12, .closing, 300, 100, 4, 0, false⟩,
       some ⟨15, .shown, 490, 100, 16, 0, false⟩) := by decide +kernel

/-- 02, TWO PLATES MOVING TOWARD EACH OTHER. -/
def meeting : State :=
  withPlates State.reset
    [(4, shown { box 21 1 200 100 40 50 with colRate := 8 }), (9, shown { box 22 1 200 162 40 50 with colRate := -8 })]

theorem test_two_plates_meet :
    (fun s => (seen s.table.slots 4, seen s.table.slots 9, s.att.motionHeld.latch, s.att.motionHeld.more)) (boundary meeting) =
      (some ⟨21, .shown, 200, 108, 16, 0, false⟩, some ⟨22, .shown, 200, 162, 16, 0, true⟩, some (.motionHeld 22 21), false) ∧
    (fun s => (seen s.table.slots 4, s.att.motionHeld.latch, s.att.motionHeld.more))
        (boundary (boundary meeting)) =
      (some ⟨21, .shown, 200, 108, 16, 0, true⟩, some (.motionHeld 22 21), true) := by decide +kernel

/-- 02, A HELD PLATE WHOSE STOP IS NOT TAKEN, with the height of tag 40. -/
def nearStop (height : Nat) : State :=
  withPlates State.reset
    [(1, shown (box 2 2 310 0 20 100)),
     (12, shown { box 40 2 300 0 height 100 with rowRate := 6, stopRow := some 304, closeAtStop := true, fadeStep := 1
                                                 notify := { shown := false, closed := false, stopped := true } })]

theorem test_stop_not_taken :
    (fun s => (seen s.table.slots 12, s.att.motionHeld.latch, s.att.plateStopped.pending)) (boundary (nearStop 8)) =
      (some ⟨40, .shown, 300, 0, 16, 0, true⟩, some (.motionHeld 40 2), false) ∧
    (fun s => (seen s.table.slots 12, s.att.plateStopped.latch)) (boundary (nearStop 6)) =
      (some ⟨40, .closing, 304, 0, 16, 0, false⟩, some (.plateStopped 40)) := by decide +kernel

/-- 01, ROTATING PLACEMENT: the index steps down to P and wraps to 31. -/
theorem test_rotation_steps : rotationStep 1 31 = 30 ∧ rotationStep 1 2 = 1 ∧ rotationStep 1 1 = 31 := by decide

/-- 03, KEYING ONE ROW. -/
def rowSet : List VisPlate :=
  [⟨3, 30, 0, 400, 0, 50, 720, .box, none, 16⟩, ⟨5, 31, 2, 404, 40, 28, 300, .index, some 0, 12⟩,
   ⟨8, 32, 2, 404, 400, 28, 300, .index, none, 16⟩, ⟨11, 33, 3, 380, -50, 40, 80, .box, none, 8⟩]

def rowLevels : Vector Nat 16 := ((Vector.replicate 16 4).set 7 2).set 15 0

theorem test_row_410_spans :
    (spanList 720 410 rowSet).map (fun sp => (sp.slot, sp.leftCol, sp.rightCol)) =
      [(11, 0, 29), (3, 0, 719), (5, 40, 339), (8, 400, 699)] ∧ spanList 720 450 rowSet = [] := by decide +kernel

theorem test_row_410_key :
    ([(10, 4), (100, 0), (100, 7), (100, 3), (360, 1), (500, 15), (500, 1), (710, 9)] : List (Int × Fin 16)).map
        (fun e => spanKey rowLevels (spanList 720 410 rowSet) e.1 e.2) = [8, 16, 6, 12, 16, 16, 16, 16] := by decide +kernel

/-- 03, AN OVERFLOWING ROW: the kept slots, in slot order. -/
def creditRow : List VisPlate :=
  ([(1, 3), (2, 1), (4, 2), (6, 2), (9, 1), (14, 0), (17, 1), (20, 0), (22, 3), (26, 2), (30, 3)] : List (Slot × Nat)).map fun e =>
    ⟨e.1, 1, e.2, 290, 20 * e.1.val, 30, 10, .box, none, 16⟩

theorem test_overflowing_row :
    (keptSpans (rowCandidates 720 300 creditRow)).map (·.slot) = [1, 2, 4, 6, 9, 22, 26, 30] ∧
      rowOverflows 720 300 creditRow = true := by decide +kernel

/-- 04, A CAPTION LOOP WITH A DELAY: cue 13 in LOOP mode, and a missed trigger while DELAYING. -/
def captionLoop : Sequencer :=
  { Sequencer.reset with
    cues := ((((Sequencer.reset.cues).set 10 ⟨.showPlate, 50, 0, ⟨true, false, false, false⟩⟩).set 11
      ⟨.mix, 50, 8, ⟨false, false, false, false⟩⟩).set 12 ⟨.delay, 0, 100, ⟨false, false, false, false⟩⟩).set 13
      ⟨.close, 50, 0, ⟨false, false, true, false⟩⟩
    pointer := 10, loopStart := 10, mode := .loop, sources := { cueIn := true, interval := false, markA := false }
    state := .waiting }

def looping : State := { State.reset with seq := captionLoop }

theorem test_caption_loop_first_run :
    (fun s => (s.seq.state, s.seq.pointer, s.seq.runCount, s.table.queue)) (after .cueExecution (after .cueInEdge looping)) =
      (.waiting, 11, 0, [⟨.cue 10, .showPlate 50⟩]) := by decide +kernel

theorem test_caption_loop_delay :
    (fun s => (s.seq.state, s.seq.pointer, s.seq.delay, s.att.sequencerFault.latch))
        (after .cueInEdge (after .cueExecution
          { looping with seq := { captionLoop with state := .running, pointer := 12, runCount := 1 } })) =
      (.delaying, 13, 100, some (.sequencerFault .missedTrigger 13)) ∧
    (fun s => (s.seq.state, s.seq.pointer, s.seq.runCount))
        (after .cueExecution (after .delayExpiry (boundary
          { looping with seq := { captionLoop with state := .delaying, pointer := 13, delay := 1 } }))) =
      (.running, 10, 1) := by decide +kernel

/-- 04, A STALL ACROSS A BOUNDARY. -/
def stalling : State :=
  { State.reset with
    table := { PlateTable.reset with queue := List.replicate 16 ⟨.request, .drop 99⟩ }
    seq := { Sequencer.reset with
      cues := Sequencer.reset.cues.set 42 ⟨.drop, 62, 0, ⟨false, false, false, false⟩⟩
      pointer := 42, state := .running, runCount := 2 } }

theorem test_stall_and_resumption :
    (fun s => (s.seq.state, s.seq.pointer, s.seq.runCount, s.att.sequencerFault.latch)) (after .cueExecution stalling) =
      (.stalled, 42, 2, some (.sequencerFault .stall 42)) ∧
    (fun s => (s.seq.state, s.seq.pointer, s.seq.runCount, s.table.queue))
        (after .stallResumption (boundary (after .cueExecution stalling))) =
      (.running, 43, 3, [⟨.cue 42, .drop 62⟩]) := by decide +kernel

/-- A boundary has matched mark A, and has reached the counter's halt, and has run a delay out; the next line start is due. -/
def boundaryGave (q : SeqState) (halts : Nat) (expiry : Bool) : State :=
  { State.reset with
    seq := { captionLoop with state := q, sources := ⟨false, false, true⟩, delay := if expiry then 1 else 0
                              marksDue := 1, haltsDue := halts, expiryDue := expiry }
    clock := { FieldClock.reset with preset := 9, count := 9, select := ⟨false, true, false, false, false⟩ } }

/-- 04 R90, 06 R126: the halt first and the trigger ignored, or the trigger first and then the halt. -/
theorem test_mark_and_halt_in_either_order :
    (fun s => (s.seq.state, s.seq.marksDue, s.clock.count)) (after .lineStart (after .haltOnCount (boundaryGave .waiting 1 false))) =
      (.halted, 0, 9) ∧
    (fun s => (s.seq.state, s.seq.haltsDue, s.clock.count)) (after .haltOnCount (after .lineStart (boundaryGave .waiting 1 false))) =
      (.halted, 0, 8) := by decide +kernel

/-- 04 R90: the expiry first, its run ended in WAITING and the trigger a new run; or the trigger first, missed in DELAYING. -/
theorem test_mark_and_expiry_in_either_order :
    (fun s => (s.seq.state, s.seq.pointer, s.att.sequencerFault.pending))
        (after .lineStart (after .cueExecution (after .delayExpiry (boundaryGave .delaying 0 true)))) = (.running, 11, false) ∧
    (fun s => (s.seq.state, s.seq.pointer, s.att.sequencerFault.latch))
        (after .delayExpiry (after .lineStart (boundaryGave .delaying 0 true))) =
      (.running, 10, some (.sequencerFault .missedTrigger 10)) := by decide +kernel

/-- 08 R168, R171: no natural end before a field's last line; RASTER RESET Low while RESET is Low, one release after it. -/
theorem test_no_early_boundary_and_reset_pin :
    after .fieldBoundary (standing State.reset 311) = standing State.reset 311 ∧
    (fun r => (r.line, r.startDue)) (after .fieldBoundary (standing State.reset 312)).raster = (313, true) ∧
    ((holdReset looping).raster.resetLow, (holdReset looping).raster.pulses) = (true, 0) ∧
    (fun r => (r.resetLow, r.pulses, r.line)) (after .powerOnReset looping).raster = (false, 1, 0) := by decide +kernel

/-- 07, MEASURING THE PHASE ERROR. -/
theorem test_phase_error_table :
    ([(100, 99, 13800), (100, 100, 40), (100, 412, 0), (100, 412, 6912), (600, 10, 0)] : List (Int × Int × Int)).map
        (fun e => phaseError Raster.reset e.1 { line := e.2.1, p := e.2.2 }) = [24, -40, -4313088, 4320000, -483840] ∧
      (fun c : RefLock => (c.phaseLines, c.phaseSixteenths)) (RefLock.reset.recordPhase 13824 4320000) = (312, 6912) := by
  decide +kernel

/-- 08, ENTERING FRAME LOCK FAR FROM THE REFERENCE: the segments of the ramp, and the ramp-down distance at +256. -/
theorem test_ramp_segments :
    ([-12, -4, 4, 248] : List Int).map (fun o => (segmentOutcome RasterParams.reset .s625 ⟨.up, true, 27649⟩ o).offset) =
        [-4, 4, 12, 256] ∧
      (segmentOutcome RasterParams.reset .s625 ⟨.up, true, 25000⟩ 248).ramp.stage = .cruise ∧
      (segmentOutcome RasterParams.reset .s625 ⟨.cruise, true, 838⟩ 256).offset = 256 ∧
      segmentOutcome RasterParams.reset .s625 ⟨.cruise, true, 837⟩ 256 = ⟨⟨.down, true, 837⟩, 248⟩ := by decide +kernel

/-- 09: a request written byte by byte, executed, and its reply read; the status byte at power-on is ROOM alone. -/
theorem test_request_round :
    State.reset.statusByte = 0x04#8 ∧
    (fun s => (s.clock.counter, s.port.requests, s.port.replies))
        (after .setFieldCount ([0x10, 4, 0xB6, 3, 0, 0].foldl (fun s b => after (.requestByteWrite b) s) State.reset)) =
      (950, [], [0, 0]) ∧
    (after .replyByteRead { State.reset with port := { Port.reset with replies := [0x82, 0] } }).port.lastRead = 0x82#8 := by
  decide +kernel

/-- 10: a second occurrence sets MORE and keeps the latch; a clearing write to location 3 clears cause 9. -/
theorem test_attention_more_and_clear :
    ((Attention.reset.occur (.plateClosed 7)).occur (.plateClosed 8)).plateClosed = ⟨true, true, false, some (.plateClosed 7)⟩ ∧
    (after (.attentionClear 3#2 0x02#8)
      { State.reset with att := Attention.reset.occur (.plateClosed 7) }).att.plateClosed = CauseState.reset := by decide +kernel

/-- 11, START-UP TO FIRST LOCK: power-on, then the 32nd good spacing makes LINE LOCK. -/
theorem test_first_lock :
    (fun s => (s.rlc.lock, s.att.lockChange.latch, s.rlc.prediction))
        (after (.lineSync .a 13824)
          { State.reset with rlc := { RefLock.reset with lastSync := some 0, goodCount := 31, period := 13824 } }) =
      (.lineLock, some (.lockChange .search .lineLock), some 27648) := by decide +kernel

/-! ## Witnesses: the block, resets and the port

Each theorem gives states and operands that meet the hypotheses of the statement it is named after, clause by clause, at the
ends of the ranges. -/

/-- A request put at the head of the FIFO of a port that is not busy and has room is ready. -/
theorem ready_asked (s : State) (c : Byte) (ops : List Byte) (n : Nat) (h1 : s.port.job = .idle)
    (h2 : s.port.replies.length + n ≤ 64) : RequestReady (asked s c ops) c n ops [] :=
  ⟨by simp [asked], h1, h2⟩

/-- Power-on with n bytes waiting in the reply FIFO. -/
def replied (n : Nat) : State := { State.reset with port := { Port.reset with replies := List.replicate n 0 } }

theorem ready_replied (c : Byte) (ops : List Byte) (n k : Nat) (h : k + n ≤ 64) :
    RequestReady (asked (replied k) c ops) c n ops [] :=
  ready_asked _ _ _ _ rfl (by simpa [replied] using h)

/-- Power-on with the sequencer in another state at this pointer. -/
def sequenced (q : SeqState) (i : CueIndex) : State :=
  { State.reset with seq := { Sequencer.reset with state := q, pointer := i } }

theorem attention_reset : AttentionInvariant State.reset := by
  refine fun c => ⟨fun _ => ?_, fun h => ?_⟩
  · cases c <;> exact ⟨rfl, rfl⟩
  · cases c <;> cases h

/-- Power-on with n amendments queued. -/
def posted (n : Nat) : State :=
  { State.reset with table := { PlateTable.reset with queue := List.replicate n ⟨.request, .setPinned 0⟩ } }

theorem witness_StepTakesFrontCommand : State.reset.pending = [] := rfl

theorem witness_SoftReset : (0x02#8).getLsbD 1 = true ∧ (0xFF#8).getLsbD 1 = true := by decide

theorem witness_Abort :
    ((0x01#8).getLsbD 0 = true ∧ (0x01#8).getLsbD 1 = false) ∧ (0xFD#8).getLsbD 0 = true ∧ (0xFD#8).getLsbD 1 = false := by decide

theorem witness_PortControl :
    ((0xFC#8).getLsbD 0 = false ∧ (0xFC#8).getLsbD 1 = false) ∧
    ((0x01#8).getLsbD 0 = (0xFD#8).getLsbD 0 ∧ (0x01#8).getLsbD 1 = (0xFD#8).getLsbD 1) ∧
    exec (.abort 0x01#8) (replied 1) = .next State.reset ∧ exec (.softReset 0x02#8) (replied 1) = .next State.reset :=
  ⟨by decide, by decide, rfl, rfl⟩

theorem witness_RequestBytes :
    (∃ s : State, s.port.rejecting = false ∧ s.port.requests.length = 63) ∧
    (∃ s : State, s.port.rejecting = false ∧ s.port.requests.length = 64) ∧ ∃ s : State, s.port.rejecting = true :=
  ⟨⟨asked State.reset 0 (List.replicate 61 0), rfl, rfl⟩, ⟨asked State.reset 0 (List.replicate 62 0), rfl, rfl⟩,
   ⟨{ State.reset with port := { Port.reset with rejecting := true } }, rfl⟩⟩

theorem witness_ReplyBytes : (∃ (s : State) (b : Byte), s.port.replies = b :: []) ∧ State.reset.port.replies = [] :=
  ⟨⟨replied 1, 0, rfl⟩, rfl⟩

theorem witness_ClearingWrites :
    ((2#2 : BitVec 2) = 2#2 ∧ Cause.sequencerFault.number < 8 ∧ (0x80#8).getLsbD 7 = true) ∧
    (3#2 : BitVec 2) = 3#2 ∧ 8 ≤ Cause.plateShown.number ∧ (0x01#8).getLsbD 0 = true := by decide

theorem witness_Occurrences :
    (Attention.reset.get (Detail.plateClosed 7).cause).pending = false ∧
    ((Attention.reset.occur (.plateClosed 7)).get (Detail.plateClosed 8).cause).pending = true ∧
    Cause.plateShown ≠ (Detail.plateClosed 7).cause := by decide

theorem witness_IntFollows :
    (Cause.lockChange.number < 8 ∧ Cause.sequencerFault.number < 8) ∧ 8 ≤ Cause.plateShown.number ∧ 8 ≤ Cause.portOverrun.number ∧
      (5 ≤ 5 ∧ 5 ≤ 7) := by decide

theorem witness_RefusedRequests :
    ((∀ r ∈ requestTable, r.code ≠ 0x00#8) ∧ (List.replicate 30 (0 : Byte)).length ≤ 30 ∧
      RequestReady (asked (replied 62) 0x00#8 (List.replicate 30 0)) 0x00#8 2 (List.replicate 30 0) []) ∧
    (30 < (31#8).toNat ∧ 30 < (255#8).toNat ∧
      ∃ s : State, s.port.requests = [0x20#8, 31#8] ∧ s.port.job = .idle ∧ s.port.replies.length + 2 ≤ 64) ∧
    (requestOf .start = some reqStart ∧ [0#8, 0#8].length ∉ reqStart.lengths ∧
      RequestReady (asked State.reset 0x43#8 [0, 0]) reqStart.code reqStart.largest [0, 0] []) ∧
    (requestOf .start = some reqStart ∧ [128#8].length ∈ reqStart.lengths ∧ operandsOk State.reset [128#8] .start = false ∧
      RequestReady (asked State.reset 0x43#8 [128]) reqStart.code reqStart.largest [128] []) :=
  ⟨⟨by decide, by decide, ready_replied _ _ _ _ (by decide)⟩,
   ⟨by decide, by decide, ⟨{ State.reset with port := { Port.reset with requests := [0x20#8, 31#8] } }, rfl, rfl, by decide⟩⟩,
   ⟨rfl, by decide, ready_asked _ _ _ _ rfl (by decide)⟩, ⟨rfl, by decide, by decide, ready_asked _ _ _ _ rfl (by decide)⟩⟩

theorem witness_RequestsWait :
    requestOf .halt = some reqHalt ∧
    (∀ ops rest, State.reset.port.requests = reqHalt.code :: byteOf ops.length :: (ops ++ rest) → 30 < ops.length) ∧
    (∃ s : State, s.port.job ≠ .idle) ∧ 64 < (replied 63).port.replies.length + reqHalt.largest := by
  refine ⟨rfl, ?_, ⟨{ State.reset with port := { Port.reset with job := .sync none } }, ?_⟩, by decide⟩
  · intro ops rest h; cases h
  · intro h; cases h

theorem witness_ReadRequests :
    (AttentionInvariant (asked (replied 23) 0x62#8 []) ∧ 255 ≤ 255 ∧ 65535 ≤ 65535 ∧ State.reset.seq.state ≠ .delaying ∧
      (sequenced .delaying 0).seq.state = .delaying) ∧
    RequestReady (asked (replied 54) 0x14#8 []) 0x14#8 10 [] [] ∧
    (RequestReady (asked (replied 26) 0x41#8 [121, 7]) 0x41#8 38 [121, 7] [] ∧ 1 ≤ (7#8).toNat ∧ (7#8).toNat ≤ 7 ∧
      (121#8).toNat + (7#8).toNat ≤ 128 ∧ 6 < (7#8).toNat ∧ (127 : CueIndex).val = (121#8).toNat + 6) ∧
    (RequestReady (asked State.reset 0x41#8 [127, 1]) 0x41#8 38 [127, 1] [] ∧ 1 ≤ (1#8).toNat ∧
      (127#8).toNat + (1#8).toNat ≤ 128) ∧
    RequestReady (asked (replied 38) 0x53#8 []) 0x53#8 26 [] [] ∧ RequestReady (asked (replied 23) 0x62#8 []) 0x62#8 41 [] [] :=
  ⟨⟨attention_reset, by decide, by decide, by decide, rfl⟩, ready_replied _ _ _ _ (by decide), ⟨ready_replied _ _ _ _ (by decide), by decide⟩,
   ⟨ready_asked _ _ _ _ rfl (by decide), by decide⟩, ready_replied _ _ _ _ (by decide), ready_replied _ _ _ _ (by decide)⟩

theorem witness_ClockRequests :
    RequestReady (asked State.reset 0x10#8 [0xFF, 0xFF, 0xFF, 0xFF]) 0x10#8 2 [0xFF, 0xFF, 0xFF, 0xFF] [] ∧
    (RequestReady (asked State.reset 0x11#8 [0, 1, 2, 3, 4, 1]) 0x11#8 2 [0, 1, 2, 3, 4, 1] [] ∧ (1#8).toNat ≤ 1) ∧
    (RequestReady (asked State.reset 0x11#8 [1, 1, 2, 3, 4, 0]) 0x11#8 2 [1, 1, 2, 3, 4, 0] [] ∧ (0#8).toNat ≤ 1) ∧
    (RequestReady (asked State.reset 0x12#8 [0xFF, 0x0F]) 0x12#8 2 [0xFF, 0x0F] [] ∧ (0x0F#8 ++ 0xFF#8).toNat ≤ 4095) ∧
    RequestReady (asked State.reset 0x13#8 [0xFF, 0xFF, 31, 1]) 0x13#8 2 [0xFF, 0xFF, 31, 1] [] ∧ (31#8).toNat < 32 ∧
      (1#8).toNat ≤ 1 ∧ (asked State.reset 0x13#8 [0xFF, 0xFF, 31, 1]).clock.handed = [] :=
  ⟨ready_asked _ _ _ _ rfl (by decide), ⟨ready_asked _ _ _ _ rfl (by decide), by decide⟩,
   ⟨ready_asked _ _ _ _ rfl (by decide), by decide⟩, ⟨ready_asked _ _ _ _ rfl (by decide), by decide⟩,
   ready_asked _ _ _ _ rfl (by decide), by decide⟩

theorem witness_EnableAndKeyerRequests :
    RequestReady (asked State.reset 0x61#8 [0xFF, 0x80]) 0x61#8 2 [0xFF, 0x80] [] ∧
    ((List.replicate 16 (4#8)).length = 16 ∧ (∀ b ∈ List.replicate 16 (4#8), b.toNat ≤ 4) ∧
      RequestReady (asked State.reset 0x30#8 (List.replicate 16 4)) 0x30#8 2 (List.replicate 16 4) []) ∧
    RequestReady (asked State.reset 0x31#8 [0]) 0x31#8 2 [0] [] ∧ RequestReady (asked State.reset 0x31#8 [1]) 0x31#8 2 [1] [] ∧
      RequestReady (asked State.reset 0x31#8 [2]) 0x31#8 2 [2] [] :=
  ⟨ready_asked _ _ _ _ rfl (by decide), ⟨rfl, by decide, ready_asked _ _ _ _ rfl (by decide)⟩,
   ready_asked _ _ _ _ rfl (by decide), ready_asked _ _ _ _ rfl (by decide), ready_asked _ _ _ _ rfl (by decide)⟩

/-! ## Witnesses: posting and look-ups -/

/-- A record at the ends of its ranges. -/
def extreme : HostFields :=
  { box 254 3 (-1024) 2047 576 1024 with
    group := 7, keyMode := .index, transIndex := some 15, fadeStep := 15, start := .atField 0xFFFFFFFF#32, lifetime := 65535
    rowRate := -16, colRate := 31, stopRow := some 2047, stopCol := some (-1024), holdInSlew := true, closeAtStop := true
    notify := { shown := true, closed := true, stopped := true } }

theorem extreme_inRange : extreme.InRange := by
  refine ⟨by decide, by decide, by decide, by decide, by decide, by decide, by decide, by decide, by decide, by decide, by decide,
    by decide, ?_, by decide, by decide, by decide, by decide, by decide, by decide, by decide, ?_, ?_⟩
  all_goals intro x h; cases h; decide

theorem box_inRange : (box 1 0 0 0 1 1).InRange := by
  refine ⟨by decide, by decide, by decide, by decide, by decide, by decide, by decide, by decide, by decide, by decide, by decide,
    by decide, ?_, by decide, by decide, by decide, by decide, by decide, by decide, by decide, ?_, ?_⟩
  all_goals intro x h; cases h

/-- A field-select set that names two fields. -/
def twoFields : FieldSelect :=
  { group := none, layer := none, top := some (-1024), left := none, height := none, width := none, keyMode := none
    transIndex := none, mixTarget := none, fadeStep := none, lifetime := none, rowRate := none, colRate := none
    stopRow := some none, stopCol := none, notify := none, holdInSlew := none, closeAtStop := none }

theorem twoFields_inRange : twoFields.InRange := by
  refine ⟨?_, ?_, ?_, ?_, ?_, ?_, ?_, ?_, ?_, ?_, ?_, ?_, ?_, ?_⟩
  all_goals intro x h; cases h
  decide

def savedScene (m : List Image) : Scenes := (State.reset.scenes).set 3 { valid := true, savedField := 9, images := m }

theorem witness_PostingRequests :
    (posted 15).table.queue.length < 16 ∧
    ((placeBytes none extreme).length = 28 ∧ placeOk (placeBytes none extreme) = true ∧
      RequestReady (asked (posted 15) 0x20#8 (placeBytes none extreme)) 0x20#8 3 (placeBytes none extreme) []) ∧
    ((amendBytes 254 twoFields).length = 29 ∧ amendOk (amendBytes 254 twoFields) = true ∧
      RequestReady (asked (posted 15) 0x21#8 (amendBytes 254 twoFields)) 0x21#8 3 (amendBytes 254 twoFields) []) ∧
    ((1#8) ≠ 0 ∧ (254#8) ≠ 255 ∧ RequestReady (asked (posted 15) 0x22#8 [254]) 0x22#8 3 [254] [] ∧
      RequestReady (asked (posted 15) 0x23#8 [1]) 0x23#8 3 [1] [] ∧ RequestReady (asked (posted 15) 0x24#8 [1]) 0x24#8 3 [1] []) ∧
    ((7#8).toNat ≤ 7 ∧ RequestReady (asked (posted 15) 0x25#8 [7]) 0x25#8 3 [7] [] ∧
      RequestReady (asked (posted 15) 0x26#8 [7, 128, 127]) 0x26#8 3 [7, 128, 127] []) ∧
    ((32#8).toNat ≤ 32 ∧ RequestReady (asked (posted 15) 0x27#8 [32]) 0x27#8 3 [32] []) ∧
    ∃ s : State, s.table.queue.length < 16 ∧ (3#8).toNat = (3 : SceneNo).val ∧ (s.scenes.get 3).valid = true ∧
      RequestReady s 0x51#8 3 [3] [] :=
  ⟨by decide, ⟨by decide, by decide, ready_asked _ _ _ _ rfl (by decide)⟩, ⟨by decide, by decide, ready_asked _ _ _ _ rfl (by decide)⟩,
   ⟨by decide, by decide, ready_asked _ _ _ _ rfl (by decide), ready_asked _ _ _ _ rfl (by decide), ready_asked _ _ _ _ rfl (by decide)⟩,
   ⟨by decide, ready_asked _ _ _ _ rfl (by decide), ready_asked _ _ _ _ rfl (by decide)⟩,
   ⟨by decide, ready_asked _ _ _ _ rfl (by decide)⟩,
   ⟨asked { State.reset with scenes := savedScene [] } 0x51#8 [3], by decide, by decide, by decide, ready_asked _ _ _ _ rfl (by decide)⟩⟩

theorem witness_PostsAreRefused :
    (Instr.close ∈ [Instr.place, .amend, .showPlate, .close, .drop, .groupClose, .groupMove, .setPinned] ∧
      requestOf .close = some reqClose ∧ [254#8].length ∈ reqClose.lengths ∧ operandsOk (asked (posted 16) 0x23#8 [254]) [254] .close = true ∧
      16 ≤ (asked (posted 16) 0x23#8 [254]).table.queue.length ∧ RequestReady (asked (posted 16) 0x23#8 [254]) reqClose.code 3 [254] []) ∧
    ((State.reset.scenes.get 0).valid = false ∧ RequestReady (asked State.reset 0x51#8 [0]) 0x51#8 3 [0] []) ∧
    ∃ s : State, (s.scenes.get 3).valid = true ∧ 16 ≤ s.table.queue.length ∧ RequestReady s 0x51#8 3 [3] [] :=
  ⟨⟨by decide, rfl, by decide, by decide, by decide, ready_asked _ _ _ _ rfl (by decide)⟩,
   ⟨by decide, ready_asked _ _ _ _ rfl (by decide)⟩,
   ⟨asked { posted 16 with scenes := savedScene [] } 0x51#8 [3], by decide, by decide, ready_asked _ _ _ _ rfl (by decide)⟩⟩

theorem witness_PlaceOperandBytes : extreme.InRange ∧ (box 1 0 0 0 1 1).InRange := ⟨extreme_inRange, box_inRange⟩

theorem witness_AmendAndCueBytes : (1#8) ≠ 0 ∧ (254#8) ≠ 255 ∧ twoFields.InRange ∧ selectBits twoFields ≠ 0 :=
  ⟨by decide, by decide, twoFields_inRange, by decide⟩

theorem slotAt_reset (i : Slot) : slotAt State.reset.table.slots i = none := by revert i; decide

/-- A table with a single live plate obeys the table's laws. -/
theorem laws_single (i : Slot) (p : Plate) : TableLaws (putSlot State.reset.table.slots i (some p)) := by
  intro j k q r hjk hq hr
  rw [slotAt_putSlot] at hq hr
  by_cases hj : j = i
  · by_cases hk : k = i
    · exact absurd (hj.trans hk.symm) hjk
    · rw [if_neg hk, slotAt_reset] at hr; cases hr
  · rw [if_neg hj, slotAt_reset] at hq; cases hq

theorem noTag_reset (t : Byte) : ¬ TagLive State.reset.table.slots t := by
  rintro ⟨i, p, h, _⟩
  rw [slotAt_reset] at h; cases h

/-- Power-on with the plate in slot 31. -/
def onePlate (p : Plate) : State := withPlates State.reset [(31, p)]

theorem onePlate_slot (p : Plate) : slotAt (onePlate p).table.slots 31 = some p := slotAt_putSlot_same _ _ _

theorem witness_Query :
    ((254#8) ≠ 0 ∧ (254#8) ≠ 255 ∧ RequestReady (asked (onePlate (shown extreme)) 0x28#8 [254]) 0x28#8 33 [254] [] ∧
      TableLaws (onePlate (shown extreme)).table.slots ∧ slotAt (onePlate (shown extreme)).table.slots 31 = some (shown extreme) ∧
      (shown extreme).tag = 254) ∧
    ((1#8) ≠ 0 ∧ (1#8) ≠ 255 ∧ RequestReady (asked (replied 31) 0x28#8 [1]) 0x28#8 33 [1] [] ∧
      ¬ TagLive (asked (replied 31) 0x28#8 [1]).table.slots 1) :=
  ⟨⟨by decide, by decide, ready_asked _ _ _ _ rfl (by decide), laws_single 31 _, onePlate_slot _, rfl⟩,
   ⟨by decide, by decide, ready_replied _ _ _ _ (by decide), noTag_reset 1⟩⟩

/-- Power-on with a latched visible set. -/
def latched (vs : List VisPlate) : State := { State.reset with keyer := { Keyer.reset with visible := vs } }

theorem witness_Probe :
    (575 = (0x02#8 ++ 0x3F#8).toNat ∧ 719 = (0x02#8 ++ 0xCF#8).toNat ∧ 575 < 576 ∧ 719 < State.reset.raster.width ∧
      RequestReady (asked (replied 60) 0x29#8 [0x3F, 0x02, 0xCF, 0x02]) 0x29#8 4 [0x3F, 0x02, 0xCF, 0x02] [] ∧
      State.reset.keyer.visible = []) ∧
    RequestReady (asked (latched rowSet) 0x29#8 [0x9A, 0x01, 100, 0]) 0x29#8 4 [0x9A, 0x01, 100, 0] [] ∧
      410 = (0x01#8 ++ 0x9A#8).toNat ∧ 100 = (0x00#8 ++ 100#8).toNat ∧
      ∃ v ∈ rowSet, v.tag = 31 ∧ v.top ≤ 410 ∧ 410 ≤ v.top + v.height - 1 ∧ v.left ≤ 100 ∧ 100 ≤ v.left + v.width - 1 ∧
        ∀ w ∈ rowSet, w ≠ v → w.coversAt 410 100 = true → w.layer < v.layer :=
  ⟨⟨by decide, by decide, by decide, by decide, ready_replied _ _ _ _ (by decide), rfl⟩, ready_asked _ _ _ _ rfl (by decide), by decide,
   by decide, ⟨⟨5, 31, 2, 404, 40, 28, 300, .index, some 0, 12⟩, by decide, by decide⟩⟩

/-- A LIST of every state and group at this cursor. -/
def listJob (cursor : Nat) (suspended : Bool) : ListJob :=
  { armed := true, shown := true, closing := true, groups := 0xFF, cursor := cursor, items := 0, suspended := suspended }

theorem witness_List :
    ((7#8).toNat < 8 ∧ RequestReady (asked (replied 62) 0x2A#8 [7, 0xFF]) 0x2A#8 2 [7, 0xFF] []) ∧
    ((listJob 31 false).cursor = (31 : Slot).val ∧ (listJob 31 false).suspended = false ∧
      (∀ p, slotAt State.reset.table.slots 31 = some p → ¬ ListMatches (listJob 31 false) p) ∧
      slotAt (onePlate (shown extreme)).table.slots 31 = some (shown extreme) ∧ ListMatches (listJob 31 false) (shown extreme)) ∧
    ((replied 32).port.replies.length + 32 ≤ 64 ∧ 64 < (replied 33).port.replies.length + 32) ∧
    ((listJob 31 true).suspended = true ∧ (replied 32).port.replies.length + 32 ≤ 64) ∧
    (listJob 32 false).cursor = 32 ∧ (replied 57).port.replies.length + 7 ≤ 64 := by
  refine ⟨⟨by decide, ready_replied _ _ _ _ (by decide)⟩, ⟨rfl, rfl, ?_, onePlate_slot _, ?_⟩, by decide, by decide, rfl, by decide⟩
  · intro p h; rw [slotAt_reset] at h; cases h
  · exact ⟨Or.inr (Or.inl ⟨rfl, rfl⟩), by decide⟩

theorem witness_Sync :
    RequestReady (asked (replied 62) 0x60#8 []) 0x60#8 2 [] [] ∧
    (∃ (s : State) (g : SyncFigures), s.port.job = .sync (some g) ∧ s.port.replies.length + 9 = 64) ∧
    ∃ s : State, s.port.job = .sync none :=
  ⟨ready_replied _ _ _ _ (by decide),
   ⟨{ State.reset with port := { Port.reset with job := .sync (some ⟨7, 1, 0⟩), replies := List.replicate 55 0 } }, ⟨7, 1, 0⟩, rfl,
    by decide⟩,
   ⟨{ State.reset with port := { Port.reset with job := .sync none } }, rfl⟩⟩

/-! ## Witnesses: the reference, the raster and the sequencer -/

/-- Power-on in another lock state, with a 625-line reference whose current line is entered, 100 lines into a FIRST field, its
prediction at the moment 20000 and every other value as at power-on. -/
def locked (l : LockState) : State :=
  { State.reset with
    rlc := { RefLock.reset with
      lock := l, prediction := some 20000, entered := true, standard := some .s625, period := 13824
      field := if l = .frameLock ∨ l = .flywheel then some ⟨.first, 100, false⟩ else none }
    raster := { Raster.reset with slew := if l = .frameLock then .track else .hold } }

/-- The same, the predicted line not yet entered and the last line at the moment 0. -/
def unentered (l : LockState) : State := { locked l with rlc := { (locked l).rlc with entered := false } }

theorem witness_ReferenceSettings :
    ((1#8).toNat ≤ 1 ∧ 1 ≤ (31#8).toNat ∧ (31#8).toNat ≤ 31 ∧ 8 ≤ (8#8).toNat ∧ 1 ≤ (63#8).toNat ∧ (63#8).toNat ≤ 63 ∧
      (15#8).toNat ≤ 15 ∧ (7#8).toNat ≤ 7 ∧
      RequestReady (asked State.reset 0x02#8 [1, 31, 8, 63, 0, 15, 7]) 0x02#8 2 [1, 31, 8, 63, 0, 15, 7] []) ∧
    ((1#8).toNat ≤ 1 ∧ RequestReady (asked State.reset 0x03#8 [1, 0]) 0x03#8 2 [1, 0] []) ∧
    RequestReady (asked (replied 45) 0x07#8 []) 0x07#8 19 [] [] :=
  ⟨⟨by decide, by decide, by decide, by decide, by decide, by decide, by decide, by decide, ready_asked _ _ _ _ rfl (by decide)⟩,
   ⟨by decide, ready_asked _ _ _ _ rfl (by decide)⟩, ready_replied _ _ _ _ (by decide)⟩

theorem witness_SelectSource :
    ((0#8).toNat ≤ 1 ∧ State.reset.rlc.source = .a ∧ RequestReady (asked State.reset 0x01#8 [0]) 0x01#8 2 [0] []) ∧
    ((1#8).toNat ≤ 1 ∧ State.reset.rlc.source ≠ .b ∧ State.reset.rlc.lock = .search ∧
      RequestReady (asked State.reset 0x01#8 [1]) 0x01#8 2 [1] []) ∧
    ((locked .lineLock).rlc.source ≠ .b ∧ (locked .lineLock).rlc.lock = .lineLock ∧
      RequestReady (asked (locked .lineLock) 0x01#8 [1]) 0x01#8 2 [1] []) ∧
    ((locked .frameLock).rlc.source ≠ .b ∧ (locked .frameLock).rlc.lock = .frameLock ∧ (locked .frameLock).rlc.entered = true ∧
      RequestReady (asked (locked .frameLock) 0x01#8 [1]) 0x01#8 2 [1] []) ∧
    ((unentered .frameLock).rlc.source ≠ .b ∧ (unentered .frameLock).rlc.lock = .frameLock ∧
      (unentered .frameLock).rlc.entered = false ∧ RequestReady (asked (unentered .frameLock) 0x01#8 [1]) 0x01#8 2 [1] []) ∧
    (locked .flywheel).rlc.source ≠ .b ∧ (locked .flywheel).rlc.lock = .flywheel ∧
      RequestReady (asked (locked .flywheel) 0x01#8 [1]) 0x01#8 2 [1] [] ∧
      (∀ l, (locked l).rlc.prediction = some 20000 ∧ (locked l).rlc.windowSync = none) ∧
      (after (.lineSync .a 20032) (locked .frameLock)).rlc.windowSync = some 20032 :=
  ⟨⟨by decide, rfl, ready_asked _ _ _ _ rfl (by decide)⟩, ⟨by decide, by decide, rfl, ready_asked _ _ _ _ rfl (by decide)⟩,
   ⟨by decide, rfl, ready_asked _ _ _ _ rfl (by decide)⟩, ⟨by decide, rfl, rfl, ready_asked _ _ _ _ rfl (by decide)⟩,
   ⟨by decide, rfl, rfl, ready_asked _ _ _ _ rfl (by decide)⟩, by decide, rfl, ready_asked _ _ _ _ rfl (by decide),
   fun _ => ⟨rfl, rfl⟩, by decide +kernel⟩

theorem witness_SetStandard :
    (((0#8) = 0x00#8 ∧ StandardSetting.auto = .auto) ∧ RequestReady (asked State.reset 0x04#8 [0]) 0x04#8 2 [0] [] ∧
      ¬ ∃ std, State.reset.rlc.lock = .frameLock ∧ State.reset.rlc.standard = some std ∧ Forbids .auto std) ∧
    (RequestReady (asked (locked .frameLock) 0x04#8 [1]) 0x04#8 2 [1] [] ∧
      ¬ ∃ std, (locked .frameLock).rlc.lock = .frameLock ∧ (locked .frameLock).rlc.standard = some std ∧ Forbids .only625 std) ∧
    (locked .frameLock).rlc.lock = .frameLock ∧ (locked .frameLock).rlc.standard = some .s625 ∧ Forbids .only525 .s625 ∧
      RequestReady (asked (locked .frameLock) 0x04#8 [2]) 0x04#8 2 [2] [] := by
  refine ⟨⟨by decide, ready_asked _ _ _ _ rfl (by decide), ?_⟩, ⟨ready_asked _ _ _ _ rfl (by decide), ?_⟩, rfl, rfl, Or.inr ⟨rfl, rfl⟩,
    ready_asked _ _ _ _ rfl (by decide)⟩
  · rintro ⟨_, h, _⟩; cases h
  · rintro ⟨std, _, h, f⟩; cases h; rcases f with ⟨_, f⟩ | ⟨f, _⟩ <;> cases f

/-- The operands of a SET RASTER with this 625-line length, pull limit and quick align, the rest at the power-on values; and the
parameters that they give. -/
def rasterBytes (a0 a1 p0 p1 qa : Byte) : List Byte :=
  [a0, a1, 0x5A#8, 0x03#8, 0xD0#8, 0x02#8, p0, p1, 4#8, 8#8, 16#8, 0xF4#8, 0x01#8, qa]

def rasterValues (a0 a1 p0 p1 qa : Byte) : RasterParams :=
  { length625 := (a1 ++ a0).toNat, length525 := (0x03#8 ++ 0x5A#8).toNat, activeWidth := (0x02#8 ++ 0xD0#8).toNat
    pullLimit := (p1 ++ p0).toNat, captureWindow := (4#8).toNat, rampStep := (8#8).toNat, segmentLength := (16#8).toNat
    slewTimeout := (0x01#8 ++ 0xF4#8).toNat, quickAlign := qa == 0x01#8 }

/-- A slew at this stage and offset. -/
def slewing (w : RampStage) (o : Int) : State :=
  { locked .frameLock with raster := { Raster.reset with slew := .slew ⟨w, true, 1000⟩, offset := o } }

theorem witness_SetRaster :
    (¬ ((rasterValues 0x60#8 0x03#8 0x01#8 0x00#8 0x02#8).InRange ∧ (0x02#8).toNat ≤ 1) ∧
      ¬ (rasterValues 0x60#8 0x03#8 0x00#8 0x00#8 0x00#8).InRange ∧
      RequestReady (asked State.reset 0x05#8 (rasterBytes 0x60#8 0x03#8 0x00#8 0x00#8 0x00#8)) 0x05#8 2
        (rasterBytes 0x60#8 0x03#8 0x00#8 0x00#8 0x00#8) []) ∧
    ((rasterValues 0x60#8 0x03#8 0x01#8 0x00#8 0x00#8).InRange ∧
      (rasterValues 0x60#8 0x03#8 0x01#8 0x00#8 0x00#8).lineLength .s625 = (slewing .up 256).raster.params.lineLength .s625 ∧
      ((rasterValues 0x60#8 0x03#8 0x01#8 0x00#8 0x00#8).pullLimit : Int) < (slewing .up 256).raster.offset ∧
      (slewing .up (-2)).raster.offset < -((rasterValues 0x60#8 0x03#8 0x01#8 0x00#8 0x00#8).pullLimit : Int) ∧
      (slewing .up (-1)).raster.offset.natAbs ≤ (rasterValues 0x60#8 0x03#8 0x01#8 0x00#8 0x00#8).pullLimit ∧
      RequestReady (asked (slewing .up 256) 0x05#8 (rasterBytes 0x60#8 0x03#8 0x01#8 0x00#8 0x00#8)) 0x05#8 2
        (rasterBytes 0x60#8 0x03#8 0x01#8 0x00#8 0x00#8) []) ∧
    ((rasterValues 0x60#8 0x03#8 0xFF#8 0x0F#8 0x01#8).InRange ∧ (∃ w, (slewing .cruise 256).raster.slew = .slew w ∧
        (slewing .cruise 256).raster.params.pullLimit < (rasterValues 0x60#8 0x03#8 0xFF#8 0x0F#8 0x01#8).pullLimit ∧
        w.stage = .cruise) ∧
      RequestReady (asked (slewing .cruise 256) 0x05#8 (rasterBytes 0x60#8 0x03#8 0xFF#8 0x0F#8 0x01#8)) 0x05#8 2
        (rasterBytes 0x60#8 0x03#8 0xFF#8 0x0F#8 0x01#8) []) ∧
    (State.reset.raster.slew = .hold ∧ (locked .frameLock).raster.slew = .track ∧ State.reset.rlc.lock ≠ .frameLock ∧
      (locked .frameLock).rlc.lock = .frameLock ∧ (locked .frameLock).rlc.standard = some .s625 ∧
      (locked .frameLock).rlc.entered = true ∧ (unentered .frameLock).rlc.entered = false) ∧
    (rasterValues 0xFF#8 0x03#8 0x00#8 0x01#8 0x00#8).InRange ∧
      (rasterValues 0xFF#8 0x03#8 0x00#8 0x01#8 0x00#8).lineLength .s625 ≠ State.reset.raster.params.lineLength .s625 ∧
      ∀ l, RequestReady (asked (locked l) 0x05#8 (rasterBytes 0xFF#8 0x03#8 0x00#8 0x01#8 0x00#8)) 0x05#8 2
        (rasterBytes 0xFF#8 0x03#8 0x00#8 0x01#8 0x00#8) [] := by
  unfold RasterParams.InRange
  exact ⟨⟨by decide, by decide, ready_asked _ _ _ _ rfl (by decide)⟩,
    ⟨by decide, by decide, by decide, by decide, by decide, ready_asked _ _ _ _ rfl (by decide)⟩,
    ⟨by decide, ⟨_, rfl, by decide, rfl⟩, ready_asked _ _ _ _ rfl (by decide)⟩, ⟨rfl, rfl, by decide, rfl, rfl, rfl, rfl⟩, by decide,
    by decide, fun l => ready_asked _ _ _ _ rfl (by cases l <;> decide)⟩

/-- 08 R170 in FRAME LOCK: 869 clocks predict the next line not yet entered, at once or at the close of the line in progress. -/
theorem test_new_nominal_period_predicts_one_line :
    (fun s => (s.rlc.prediction, s.rlc.nominalNext))
        (after (.setRaster 0) (asked (unentered .frameLock) 0x05#8 (rasterBytes 0x65#8 0x03#8 0x00#8 0x01#8 0x00#8))) =
      (some 13904, none) ∧
    (fun s => (s.rlc.prediction, s.rlc.nominalNext))
        (after (.setRaster 0) (asked (locked .frameLock) 0x05#8 (rasterBytes 0x65#8 0x03#8 0x00#8 0x01#8 0x00#8))) =
      (some 20000, some 13904) ∧
    (fun s => (s.rlc.prediction, s.rlc.nominalNext))
        (after .lineWindowClose
          (after (.setRaster 0) (asked (locked .frameLock) 0x05#8 (rasterBytes 0x65#8 0x03#8 0x00#8 0x01#8 0x00#8)))) =
      (some 33904, none) := by decide +kernel

/-- 08 R168: an align leaves the raster where no field can end. -/
theorem test_no_boundary_after_an_align :
    (after .fieldBoundary (after (.alignNow 1000) (asked (locked .frameLock) 0x06#8 []))).clock.counter = 1 ∧
      (after (.alignNow 1000) (asked (locked .frameLock) 0x06#8 [])).clock.counter = 1 ∧
      (after (.alignNow 1000) (asked (locked .frameLock) 0x06#8 [])).raster.pulses =
        (locked .frameLock).raster.pulses + 1 := by decide +kernel

/-- 07 R149 (log 38): the line open at a SELECT SOURCE is settled at its sync, the miss count and the period undecided. -/
theorem test_open_line_settled_at_a_switch :
    (fun s => (s.rlc.lock, s.rlc.lineTime, s.rlc.lineGood, s.rlc.prediction, s.rlc.missCount, s.rlc.entered))
        (after .selectSource (asked (after (.lineSync .a 20005) (locked .frameLock)) 0x01#8 [1])) =
      (.flywheel, 20005, true, some 33829, 0, false) := by decide +kernel

/-- 07 R144: on entry to FLYWHEEL the prediction runs on at the measured period, at a switch and at the miss limit alike, even where
08 R170 had predicted the next line by a new nominal period. -/
theorem test_flywheel_predicts_by_the_measured_period :
    (fun s => (s.rlc.lock, s.rlc.prediction, s.rlc.nominalNext))
        (after .selectSource (asked (after (.setRaster 0)
          (asked (unentered .frameLock) 0x05#8 (rasterBytes 0x65#8 0x03#8 0x00#8 0x01#8 0x00#8))) 0x01#8 [1])) =
      (.flywheel, some 13824, none) ∧
    (fun s => (s.rlc.lock, s.rlc.prediction, s.rlc.nominalNext))
        (after .lineWindowClose { locked .frameLock with
          rlc := { (locked .frameLock).rlc with missCount := 7, nominalNext := some 13904 } }) =
      (.flywheel, some 33824, none) := by decide +kernel

/-- 04 R90 (log 39): the trigger of a CUE IN edge whose own count gives a halt comes first, and the halt then ends the run. -/
theorem test_edge_triggers_before_its_own_halt :
    (fun s => (s.seq.state, s.clock.count, s.seq.haltsDue))
        (after .countDone (after .cueInEdge { looping with
          clock := { looping.clock with preset := 1, count := 1, haltOnCount := true
                                        select := { looping.clock.select with cueIn := true } } })) = (.running, 1, 1) := by
  decide +kernel

theorem params_reset : RasterParams.reset.InRange := by unfold RasterParams.InRange; decide

theorem ranges_reset : RasterRanges State.reset.raster := ⟨params_reset, by decide, by decide, by decide⟩

theorem witness_AlignNow :
    (RequestReady (asked State.reset 0x06#8 []) 0x06#8 2 [] [] ∧ State.reset.rlc.lock ≠ .frameLock) ∧
    RequestReady (asked (locked .frameLock) 0x06#8 []) 0x06#8 2 [] [] ∧ RasterRanges (locked .frameLock).raster ∧
      (locked .frameLock).rlc.lock = .frameLock ∧ (locked .frameLock).rlc.standard = some .s625 ∧
      (locked .frameLock).rlc.field = some ⟨.first, 100, false⟩ ∧ (locked .frameLock).att.rasterReset.pending = false :=
  ⟨⟨ready_asked _ _ _ _ rfl (by decide), by decide⟩, ready_asked _ _ _ _ rfl (by decide), ranges_reset, rfl, rfl, rfl, rfl⟩

theorem witness_HaltedSequencer :
    ([127#8, 1, 5, 0, 0].length ∈ [5, 9, 13, 17, 21, 25, 29] ∧ writeCuesOk [127, 1, 5, 0, 0] = true ∧
      RequestReady (asked State.reset 0x40#8 [127, 1, 5, 0, 0]) 0x40#8 2 [127, 1, 5, 0, 0] [] ∧ State.reset.seq.state = .halted ∧
      4 * 0 + 1 < 5 ∧ (127 : CueIndex).val = op8 [127, 1, 5, 0, 0] 0 + 0 ∧ (126 : CueIndex).val < op8 [127, 1, 5, 0, 0] 0 ∧
      RequestReady (asked (sequenced .waiting 0) 0x40#8 [127, 1, 5, 0, 0]) 0x40#8 2 [127, 1, 5, 0, 0] [] ∧
      (sequenced .waiting 0).seq.state ≠ .halted ∧
      writeCuesOk [0, 1, 5, 0, 0] = true ∧ op8 [0, 1, 5, 0, 0] 0 + (5 - 1) / 4 ≤ (1 : CueIndex).val) ∧
    ((127#8).toNat ≤ 127 ∧ (1#8).toNat ≤ 1 ∧ (7#8).toNat < 8 ∧ (127 : CueIndex).val = (127#8).toNat ∧
      RequestReady (asked State.reset 0x42#8 [127, 1, 7]) 0x42#8 2 [127, 1, 7] [] ∧
      RequestReady (asked (sequenced .delaying 0) 0x42#8 [127, 1, 7]) 0x42#8 2 [127, 1, 7] [] ∧ (sequenced .delaying 0).seq.state ≠ .halted) ∧
    (RequestReady (asked State.reset 0x43#8 []) 0x43#8 2 [] [] ∧
      RequestReady (asked (sequenced .running 0) 0x43#8 []) 0x43#8 2 [] [] ∧ (sequenced .running 0).seq.state ≠ .halted) ∧
    RequestReady (asked State.reset 0x43#8 [127]) 0x43#8 2 [127] [] ∧
      RequestReady (asked (sequenced .stalled 0) 0x43#8 [127]) 0x43#8 2 [127] [] ∧ (sequenced .stalled 0).seq.state ≠ .halted :=
  ⟨⟨by decide, by decide, ready_asked _ _ _ _ rfl (by decide), rfl, by decide, by decide, by decide, ready_asked _ _ _ _ rfl (by decide),
    by decide, by decide, by decide⟩,
   ⟨by decide, by decide, by decide, by decide, ready_asked _ _ _ _ rfl (by decide), ready_asked _ _ _ _ rfl (by decide), by decide⟩,
   ⟨ready_asked _ _ _ _ rfl (by decide), ready_asked _ _ _ _ rfl (by decide), by decide⟩,
   ready_asked _ _ _ _ rfl (by decide), ready_asked _ _ _ _ rfl (by decide), by decide⟩

theorem witness_HaltsLeaveThePointer :
    RequestReady (asked (sequenced .running 5) 0x44#8 []) 0x44#8 2 [] [] ∧
    ({ Sequencer.reset with haltsDue := 1 } : Sequencer).haltsDue = 0 + 1 ∧ State.reset.seq.haltsDue = 0 :=
  ⟨ready_asked _ _ _ _ rfl (by decide), rfl, rfl⟩

theorem witness_Triggers :
    (State.reset.seq.state = .halted ∧ (sequenced .waiting 0).seq.state = .waiting ∧ (sequenced .running 0).seq.state = .running ∧
      (sequenced .stalled 0).seq.state = .stalled ∧ (sequenced .delaying 0).seq.state = .delaying) ∧
    RequestReady (asked (sequenced .waiting 3) 0x45#8 []) 0x45#8 2 [] [] ∧
    (looping.seq.sources.cueIn = true ∧ State.reset.seq.sources.cueIn = false) ∧
    (∃ s : State, s.seq.intervalsDue = 0 + 1 ∧ s.seq.sources.interval = true) ∧
    (∃ s : State, s.seq.intervalsDue = 0 + 1 ∧ s.seq.sources.interval = false) ∧
    (∃ s : State, s.seq.marksDue = 0 + 1 ∧ s.seq.sources.markA = true) ∧
    (∃ s : State, s.seq.marksDue = 0 + 1 ∧ s.seq.sources.markA = false) ∧ State.reset.seq.intervalsDue = 0 :=
  ⟨⟨rfl, rfl, rfl, rfl, rfl⟩, ready_asked _ _ _ _ rfl (by decide), ⟨rfl, rfl⟩,
   ⟨{ State.reset with seq := { Sequencer.reset with intervalsDue := 1, sources := ⟨false, true, false⟩ } }, rfl, rfl⟩,
   ⟨{ State.reset with seq := { Sequencer.reset with intervalsDue := 1 } }, rfl, rfl⟩, ⟨boundaryGave .waiting 0 false, rfl, rfl⟩,
   ⟨{ State.reset with seq := { Sequencer.reset with marksDue := 1 } }, rfl, rfl⟩, rfl⟩

/-- The event counter on every event, at this count of 9, with these events waiting. -/
def counting (n : Nat) (es : List CountEvent) : FieldClock :=
  { FieldClock.reset with preset := 9, count := n, select := ⟨true, true, true, true, true⟩, haltOnCount := true, handed := es }

theorem witness_EventCounter :
    (FieldClock.reset.handed = [] ∧ FieldClock.reset.select.has .trigger = false ∧ FieldClock.reset.preset = 0) ∧
    ((counting 2 []).handed = [] ∧ (counting 2 []).select.has .closing = true ∧ (counting 2 []).preset ≠ 0 ∧ 1 < (counting 2 []).count) ∧
    ((counting 1 []).select.has .endPass = true ∧ (counting 1 []).count ≤ 1) ∧
    ((counting 1 [.cueIn, .closing]).handed = .cueIn :: [.closing] ∧ (counting 1 [.cueIn, .closing]).select.has .cueIn = true ∧
      (counting 1 [.cueIn, .closing]).preset ≠ 0 ∧ (counting 1 [.cueIn, .closing]).count ≤ 1) ∧
    ((∀ e es, (counting 2 []).handed = e :: es → 1 < (counting 2 []).count) ∧ (counting 1 []).select.field = true ∧
      (counting 1 []).count ≤ 1 ∧ 1 < (counting 2 []).count) ∧
    ((counting 1 [.cueIn]).handed = [.cueIn] ∧ (counting 1 [.cueIn]).select.has .cueIn = true ∧ (counting 1 [.cueIn]).count ≤ 1) ∧
    State.reset.clock.handed = [] ∧ State.reset.clock.select.field = false ∧ (counting 2 []).select.field = true :=
  ⟨by decide, by decide, by decide, by decide, ⟨(fun _ _ h => nomatch h), by decide⟩, by decide, by decide⟩

theorem witness_DoCue :
    (cueOk [0, 0, 0, 0] 0 = true ∧ (cueEntryAt [0, 0, 0, 0] 0).amendment? = none ∧
      RequestReady (asked (posted 16) 0x46#8 [0, 0, 0, 0]) 0x46#8 3 [0, 0, 0, 0] []) ∧
    (cueOk [1, 254, 0, 0] 0 = true ∧ (cueEntryAt [1, 254, 0, 0] 0).amendment? = some (.showPlate 254) ∧
      (posted 15).table.queue.length < 16 ∧ RequestReady (asked (posted 15) 0x46#8 [1, 254, 0, 0]) 0x46#8 3 [1, 254, 0, 0] []) ∧
    (16 ≤ (posted 16).table.queue.length ∧ RequestReady (asked (posted 16) 0x46#8 [1, 254, 0, 0]) 0x46#8 3 [1, 254, 0, 0] []) ∧
    (cueEntryAt [6, 7, 0x80, 0x7F] 0).action = .groupMove ∧ (cueEntryAt [6, 7, 0x80, 0x7F] 0).parameter = 0x7F#8 ++ 0x80#8 ∧
      (cueEntryAt [7, 3, 0, 0] 0).action = .recall ∧ (cueEntryAt [7, 3, 0, 0] 0).operand.toNat = (3 : SceneNo).val :=
  ⟨⟨by decide, by decide, ready_asked _ _ _ _ rfl (by decide)⟩, ⟨by decide, by decide, by decide, ready_asked _ _ _ _ rfl (by decide)⟩,
   ⟨by decide, ready_asked _ _ _ _ rfl (by decide)⟩, by decide, by decide, by decide, by decide⟩

/-- A run at cue 127 with this entry there, this mode and run count. -/
def runningAt (e : CueEntry) (m : SeqMode) (n : Nat) : State :=
  { State.reset with
    seq := { Sequencer.reset with cues := Sequencer.reset.cues.set 127 e, pointer := 127, state := .running, mode := m, runCount := n } }

theorem witness_CueExecution :
    (stalling.seq.state = .running ∧ (stalling.seq.cues.get stalling.seq.pointer).amendment? = some (.drop 62) ∧
      16 ≤ stalling.table.queue.length) ∧
    ((State.reset.seq.cues.get 0).flags.halt = true ∧ (State.reset.seq.cues.get 0).amendment? = none) ∧
    (decide ((127 : CueIndex).val = 127) = true ∧ (runningAt CueEntry.reset .once 0).seq.mode = .once) ∧
    (∃ e : CueEntry, e.flags.halt = false ∧ e.action = .delay ∧ (runningAt e .loop 15).seq.state = .running ∧
      (runningAt e .loop 15).seq.cues.get 127 = e) ∧
    (∃ e : CueEntry, e.flags.halt = false ∧ e.action ≠ .delay ∧ e.flags.wait = true ∧ (runningAt e .loop 15).seq.cues.get 127 = e) ∧
    (∃ e : CueEntry, e.flags.halt = false ∧ e.action ≠ .delay ∧ e.flags.wait = false ∧ 16 ≤ 15 + 1 ∧ 14 + 1 < 16 ∧
      (runningAt e .loop 15).seq.cues.get 127 = e) ∧
    (looping.seq.cues.get 10).amendment? = some (.showPlate 50) ∧ looping.table.queue.length < 16 ∧ (11 : CueIndex).val = (10 : CueIndex).val + 1 :=
  ⟨by decide, by decide, by decide,
   ⟨⟨.delay, 0, 1, ⟨false, false, false, false⟩⟩, by decide⟩, ⟨⟨.nothing, 0, 0, ⟨true, false, false, false⟩⟩, by decide⟩,
   ⟨⟨.nothing, 0, 0, ⟨false, false, false, false⟩⟩, by decide⟩, by decide, by decide, by decide⟩

theorem witness_StallsAndDelays :
    ((sequenced .stalled 0).seq.state = .stalled ∧ (sequenced .delaying 0).seq.state = .delaying ∧
      (1 < ({ Sequencer.reset with delay := 2 } : Sequencer).delay ∧ ({ Sequencer.reset with delay := 1 } : Sequencer).delay ≤ 1) ∧
      State.reset.seq.state ≠ .stalled ∧ State.reset.seq.state ≠ .delaying) ∧
    (∃ s : State, s.seq.state = .stalled ∧ s.seq.resumeDue = true) ∧ (∃ s : State, s.seq.state = .delaying ∧ s.seq.expiryDue = true) ∧
    ¬ (State.reset.seq.state = .stalled ∧ State.reset.seq.resumeDue = true) ∧
    ¬ (State.reset.seq.state = .delaying ∧ State.reset.seq.expiryDue = true) :=
  ⟨by decide, ⟨{ State.reset with seq := { Sequencer.reset with state := .stalled, resumeDue := true } }, rfl, rfl⟩,
   ⟨{ State.reset with seq := { Sequencer.reset with state := .delaying, delay := 1, expiryDue := true } }, rfl, rfl⟩, by decide, by decide⟩

theorem witness_Scenes :
    ((3#8).toNat = (3 : SceneNo).val ∧ RequestReady (asked (onePlate (shown extreme)) 0x50#8 [3]) 0x50#8 8 [3] []) ∧
    (0#8).toNat = (0 : SceneNo).val ∧ RequestReady (asked State.reset 0x52#8 [0]) 0x52#8 2 [0] [] ∧ (1 : SceneNo) ≠ 0 :=
  ⟨⟨by decide, ready_asked _ _ _ _ rfl (by decide)⟩, by decide, ready_asked _ _ _ _ rfl (by decide), by decide⟩

/-- Power-on with this Field Clock. -/
def clocked (c : FieldClock) : State := { State.reset with clock := c }

theorem witness_FieldBoundary :
    (LastFieldLine (standing State.reset 312).raster ∧ LastFieldLine (standing State.reset 624).raster ∧
      LastFieldLine { Raster.reset with std := .s525, startDue := false, line := 262 } ∧
      LastFieldLine { Raster.reset with std := .s525, startDue := false, line := 524 } ∧
      ¬ LastFieldLine (standing State.reset 311).raster ∧ ¬ LastFieldLine { Raster.reset with line := 312 }) ∧
    (∀ n, (counting n []).select.field = true ∧ (counting n []).preset ≠ 0) ∧
    (State.reset.clock.intervalLength = 0 ∧
      (∃ c : FieldClock, c.intervalLength = 3 ∧ c.intervalCount + 1 < 3) ∧ ∃ c : FieldClock, c.intervalLength = 3 ∧ 3 ≤ c.intervalCount + 1) ∧
    ((∃ s : State, s.port.job = .sync none) ∧ State.reset.port.job ≠ .sync none) ∧
    (State.reset.clock.markA.enable = false) ∧
    (∃ s : State, s.clock.markA.enable = true ∧ s.clock.markA.value = s.clock.counter + 1 ∧ s.seq.sources.markA = true ∧
      s.seq.state = .waiting ∧ s.att.markA.pending = false) ∧
    (∃ s : State, s.clock.markB.enable = true ∧ s.clock.markB.value = s.clock.counter + 1 ∧ s.att.markB.pending = false) ∧
    (∃ s : State, s.rlc.shareDue = false ∧ ∃ w, (settleShare s).raster.slew = .slew w) ∧
    slotAt (onePlate (shown extreme)).table.slots 31 = some (shown extreme) ∧ (shown extreme).state ≠ .armed ∧ 0 < (shown extreme).mix :=
  ⟨by unfold LastFieldLine; decide, fun _ => ⟨rfl, by simp [counting]⟩,
   ⟨rfl, ⟨{ FieldClock.reset with intervalLength := 3, intervalCount := 1 }, rfl, by decide⟩,
    ⟨{ FieldClock.reset with intervalLength := 3, intervalCount := 2 }, rfl, by decide⟩⟩,
   ⟨⟨{ State.reset with port := { Port.reset with job := .sync none } }, rfl⟩, by decide⟩, rfl,
   ⟨{ clocked { FieldClock.reset with counter := 0xFFFFFFFF#32, markA := ⟨0, true⟩ } with
      seq := { Sequencer.reset with state := .waiting, sources := ⟨false, false, true⟩ } }, rfl, by decide, rfl, rfl, rfl⟩,
   ⟨clocked { FieldClock.reset with markB := ⟨1, true⟩ }, rfl, by decide, rfl⟩,
   ⟨slewing .up 0, rfl, _, rfl⟩, onePlate_slot _, by decide, by decide⟩

/-- FLYWHEEL with this holdover counter under BROADCAST, whose holdover is 50, and with the share due or not. -/
def drifting (n : Nat) (due : Bool) : State :=
  { locked .flywheel with rlc := { (locked .flywheel).rlc with holdover := n, shareDue := due } }

theorem witness_Controller :
    (State.reset.rlc.shareDue = false ∧ ¬ (State.reset.rlc.lock = .flywheel)) ∧
    ((drifting 48 false).rlc.shareDue = false ∧ ¬ (drifting 48 false).rlc.inForce.holdover ≤ min ((drifting 48 false).rlc.holdover + 1) 255) ∧
    (∀ due, (drifting 49 due).rlc.lock = .flywheel ∧ (drifting 49 due).rlc.inForce.holdover ≠ 0 ∧
      (drifting 49 due).rlc.inForce.holdover ≤ min ((drifting 49 due).rlc.holdover + 1) 255 ∧ (drifting 49 due).rlc.shareDue = due) := by
  decide

/-! ## Witnesses: the table at a boundary -/

/-- The work on these plates with this P and rotation index. -/
def worked (l : List (Slot × Plate)) (pinned : Nat) (rotation : Slot) : TableWork :=
  { startWork (withPlates State.reset l).table with pinned := pinned, rotation := rotation }

theorem tagLive_of {ts : Slots} {tag : Byte} (h : (findTag ts tag).isSome = true) : TagLive ts tag := (findTag_isSome ts tag).mp h

theorem not_tagLive_of {ts : Slots} {tag : Byte} (h : findTag ts tag = none) : ¬ TagLive ts tag := (findTag_eq_none ts tag).mp h

theorem meets_of {ts : Slots} {h : HostFields} (e : (firstHit ts (fun _ => false) h).isSome = true) :
    MeetsLive ts (fun _ => False) h := by
  obtain ⟨i, p, _, hp, hm⟩ := (firstHit_isSome ts _ h).mp e
  exact ⟨i, p, id, hp, hm⟩

theorem not_meets_of {ts : Slots} {h : HostFields} (e : firstHit ts (fun _ => false) h = none) :
    ¬ MeetsLive ts (fun _ => False) h := by
  rintro ⟨i, p, _, hp, hm⟩
  exact (firstHit_eq_none ts _ h).mp e ⟨i, p, by simp, hp, hm⟩

theorem meets_skip {ts : Slots} {i : Slot} {h : HostFields} (e : (firstHit ts (fun j => decide (j = i)) h).isSome = true) :
    MeetsLive ts (fun j => j = i) h := by
  obtain ⟨j, p, hs, hp, hm⟩ := (firstHit_isSome ts _ h).mp e
  exact ⟨j, p, fun h => hs (by simpa using h), hp, hm⟩

theorem not_meets_skip {ts : Slots} {i : Slot} {h : HostFields} (e : firstHit ts (fun j => decide (j = i)) h = none) :
    ¬ MeetsLive ts (fun j => j = i) h := by
  rintro ⟨j, p, hs, hp, hm⟩
  exact (firstHit_eq_none ts _ h).mp e ⟨j, p, fun h => hs (by simpa using h), hp, hm⟩

theorem witness_TableBoundary :
    (∃ (w : TableWork) (r : FaultReason), applyOp 1 State.reset.scenes w (.drop 7) = .error r) ∧
    (∃ w v : TableWork, applyOp 1 State.reset.scenes w (.setPinned 32) = .ok v) ∧
    (∃ a ∈ (posted 1).table.queue, ∃ p, a.op = .setPinned p) ∧
    (∀ a ∈ State.reset.table.queue, ∀ p, a.op ≠ .setPinned p) ∧
    ((worked [] 31 31).rotation.val ≤ (worked [] 31 31).pinned ∧ (worked [] 30 31).pinned < (worked [] 30 31).rotation.val) :=
  ⟨⟨startWork State.reset.table, .noSuchTag, by decide +kernel⟩, ⟨startWork State.reset.table, _, rfl⟩,
   ⟨⟨.request, .setPinned 0⟩, by decide, 0, rfl⟩, by simp [State.reset, PlateTable.reset], by decide, by decide⟩

/-- Every slot live: the plate in slot i carries the tag i + 1, in a column of its own of layer 0. -/
def fullTable : List (Slot × Plate) := allSlots.map fun i => (i, shown (box (byteOf (i.val + 1)) 0 0 (10 * i.val) 10 10))

theorem witness_Place :
    (StartsAt .now 5 ∧ StartsAt (.atField 5) 5 ∧ ¬ StartsAt (.atField 6) 5 ∧ ¬ StartsAt .onCue 5) ∧
    TagLive (worked [(0, shown (box 7 0 0 0 10 10))] 0 31).slots 7 ∧
    (¬ TagLive (worked [(0, shown (box 7 0 0 0 10 10))] 0 31).slots 8 ∧
      slotAt (worked [(0, shown (box 7 0 0 0 10 10))] 0 31).slots 0 ≠ none ∧
      slotAt (worked [(0, shown (box 7 0 0 0 10 10))] 0 31).slots 1 = none ∧
      MeetsLive (worked [(0, shown (box 7 0 0 0 10 10))] 0 31).slots (fun _ => False) (box 8 0 9 9 1 1) ∧
      ¬ MeetsLive (worked [(0, shown (box 7 0 0 0 10 10))] 0 31).slots (fun _ => False) (box 8 0 10 9 1 1)) ∧
    (32 ≤ (worked [] 32 31).pinned ∧ (worked [] 31 31).pinned < 32 ∧ ¬ TagLive (worked [] 32 31).slots 1) ∧
    (∀ j : Slot, (worked [(0, shown (box 7 0 0 0 10 10))] 0 31).pinned ≤ j.val → j < 1 →
      slotAt (worked [(0, shown (box 7 0 0 0 10 10))] 0 31).slots j ≠ none) ∧
    (¬ TagLive (worked fullTable 0 31).slots 254 ∧ ¬ MeetsLive (worked fullTable 0 31).slots (fun _ => False) (box 254 3 0 0 10 10) ∧
      (∀ j : Slot, (worked fullTable 0 31).pinned ≤ j.val → slotAt (worked fullTable 0 31).slots j ≠ none) ∧
      slotAt (worked fullTable 0 31).slots (worked fullTable 0 31).rotation = some (shown (box 32 0 0 310 10 10)) ∧
      (worked fullTable 0 31).pinned < (worked fullTable 0 31).rotation.val ∧ (30 : Slot).val + 1 = (worked fullTable 0 31).rotation.val) ∧
    1 ≤ (box 1 0 0 0 1 1).height ∧ 1 ≤ (box 1 0 0 0 1 1).width :=
  ⟨⟨Or.inl rfl, Or.inr ⟨5, rfl, by decide⟩, by rw [← startsShown_iff]; decide, by rw [← startsShown_iff]; decide⟩,
   tagLive_of (by decide +kernel), ⟨not_tagLive_of (by decide +kernel), by decide +kernel, by decide +kernel, meets_of (by decide +kernel),
    not_meets_of (by decide +kernel)⟩,
   ⟨by decide, by decide, not_tagLive_of (by decide +kernel)⟩, by decide +kernel,
   ⟨not_tagLive_of (by decide +kernel), not_meets_of (by decide +kernel), by decide +kernel, by decide +kernel, by decide, by decide⟩,
   by decide, by decide⟩

/-- A plate in slot 31 alone, in any state. -/
def single (p : Plate) : TableWork := worked [(31, p)] 0 31

theorem single_slot (p : Plate) : slotAt (single p).slots 31 = some p := slotAt_putSlot_same _ _ _

theorem single_laws (p : Plate) : TableLaws (single p).slots := laws_single 31 p

/-- Two plates of one layer, tag 7 above tag 8. -/
def pair : TableWork := worked [(4, shown (box 7 1 0 0 10 10)), (5, shown (box 8 1 10 0 10 10))] 0 31

theorem pair_laws : TableLaws pair.slots := by
  intro i j p q hij hp hq
  have h : ∀ i j : Slot, i ≠ j →
      ((slotAt pair.slots i).bind fun p => (slotAt pair.slots j).map fun q =>
        p.tag != q.tag && !p.toHostFields.meets q.toHostFields).getD true = true := by decide +kernel
  have e := h i j hij
  rw [hp, hq] at e
  simpa using e

theorem witness_TagAmendments :
    ¬ TagLive State.reset.table.slots 7 ∧
    (∀ st : PlateState, TableLaws (single { shown (box 7 0 0 0 1 1) with state := st }).slots ∧
      slotAt (single { shown (box 7 0 0 0 1 1) with state := st }).slots 31 = some { shown (box 7 0 0 0 1 1) with state := st }) ∧
    (slotAt (single { shown (box 7 0 0 0 1 1) with fadeStep := 1 }).slots 31 = some { shown (box 7 0 0 0 1 1) with fadeStep := 1 } ∧
      ({ shown (box 7 0 0 0 1 1) with fadeStep := 1 } : Plate).fadeStep ≠ 0 ∧ (shown (box 7 0 0 0 1 1)).fadeStep = 0) ∧
    (TableLaws pair.slots ∧ slotAt pair.slots 4 = some (shown (box 7 1 0 0 10 10)) ∧
      MeetsLive pair.slots (fun j => j = 4) (amendHost { twoFields with top := some 1 } (box 7 1 0 0 10 10)) ∧
      ¬ MeetsLive pair.slots (fun j => j = 4) (amendHost { twoFields with top := some 0 } (box 7 1 0 0 10 10))) ∧
    AmendedTo { twoFields with top := some 1 } (box 7 1 0 0 10 10) (amendHost { twoFields with top := some 1 } (box 7 1 0 0 10 10)) :=
  ⟨noTag_reset 7, fun st => ⟨single_laws _, single_slot _⟩, ⟨single_slot _, by decide, by decide⟩,
   ⟨pair_laws, by decide +kernel, meets_skip (by decide +kernel), not_meets_skip (by decide +kernel)⟩, by
    unfold AmendedTo Takes; simp [amendHost, twoFields, box]⟩

/-- A member of group 2 at this top in slot 4, and a plate of group 0 below it in slot 5. -/
def member (top : Int) : TableWork :=
  worked [(4, shown { box 7 1 top 0 10 10 with group := 2 }), (5, shown (box 8 1 (top + 10) 0 10 10))] 4 31

theorem memberAt (top : Int) : MemberAt (member top) 2 4 (shown { box 7 1 top 0 10 10 with group := 2 }) := by
  refine ⟨Nat.le_refl 4, ?_, rfl⟩
  show slotAt (putSlot (putSlot _ 4 _) 5 _) 4 = _
  rw [slotAt_putSlot_other _ _ (by decide), slotAt_putSlot_same]

theorem witness_GroupAmendments :
    MemberAt (member 0) 2 4 (shown { box 7 1 0 0 10 10 with group := 2 }) ∧
    (∃ i p, MemberAt (member 2040) 2 i p ∧ ¬ (-1024 ≤ p.top + 8 ∧ p.top + 8 ≤ 2047 ∧ -1024 ≤ p.left + 0 ∧ p.left + 0 ≤ 2047)) ∧
    (∃ i p, MemberAt (member 0) 2 i p ∧ MeetsLive (member 0).slots (fun j => ∃ q, MemberAt (member 0) 2 j q)
      { p.toHostFields with top := p.top + 1, left := p.left + 0 }) ∧
    ((∀ p, ¬ MemberAt (worked [] 0 31) 2 0 p) ∧
      (¬ ∃ i p, MemberAt (worked [] 0 31) 2 i p ∧ ¬ (-1024 ≤ p.top + 1 ∧ p.top + 1 ≤ 2047 ∧ -1024 ≤ p.left + 0 ∧ p.left + 0 ≤ 2047)) ∧
      ¬ ∃ i p, MemberAt (worked [] 0 31) 2 i p ∧ MeetsLive (worked [] 0 31).slots (fun j => ∃ q, MemberAt (worked [] 0 31) 2 j q)
        { p.toHostFields with top := p.top + 1, left := p.left + 0 }) := by
  have none_at : ∀ i p, ¬ MemberAt (worked [] 0 31) 2 i p := by
    rintro i p ⟨_, h, _⟩
    exact absurd h (by rw [show slotAt (worked [] 0 31).slots i = none from slotAt_reset i]; simp)
  refine ⟨memberAt 0, ⟨4, _, memberAt 2040, by decide⟩, ⟨4, _, memberAt 0, 5, shown (box 8 1 10 0 10 10), ?_, ?_, by decide⟩,
    none_at 0, ?_, ?_⟩
  · rintro ⟨q, _, h, g⟩
    rw [show slotAt (member 0).slots 5 = some (shown (box 8 1 10 0 10 10)) from slotAt_putSlot_same _ _ _] at h
    cases h; cases g
  · exact slotAt_putSlot_same _ _ _
  · rintro ⟨i, p, h, _⟩; exact none_at i p h
  · rintro ⟨i, p, h, _⟩; exact none_at i p h

/-- The image of a record. -/
def imageOf (h : HostFields) : Image := { toHostFields := h, shown := true }

theorem witness_Recall :
    (State.reset.scenes.get 3).valid = false ∧
    (((savedScene [imageOf (box 7 0 0 0 1 1)]).get 3).valid = true ∧
      32 - (worked [] 32 31).pinned < ((savedScene [imageOf (box 7 0 0 0 1 1)]).get 3).images.length ∧
      ((savedScene [imageOf (box 7 0 0 0 1 1)]).get 3).images.length ≤ 32 - (worked [] 31 31).pinned) ∧
    (∃ m ∈ ((savedScene [imageOf (box 7 0 0 0 1 1)]).get 3).images, ∃ i p,
      i.val < (worked [(0, shown (box 7 3 9 9 1 1))] 1 31).pinned ∧
      slotAt (worked [(0, shown (box 7 3 9 9 1 1))] 1 31).slots i = some p ∧ (p.tag = m.tag ∨ p.toHostFields.meets m.toHostFields = true)) ∧
    (¬ ∃ m ∈ ((savedScene [imageOf (box 7 0 0 0 1 1)]).get 3).images, ∃ i p, i.val < (worked [] 31 31).pinned ∧
      slotAt (worked [] 31 31).slots i = some p ∧ (p.tag = m.tag ∨ p.toHostFields.meets m.toHostFields = true)) ∧
    (((savedScene [imageOf (box 7 0 0 0 1 1)]).get 3).images[(31 : Slot).val - 31]? = some (imageOf (box 7 0 0 0 1 1)) ∧
      ((savedScene [imageOf (box 7 0 0 0 1 1)]).get 3).images[(31 : Slot).val - 30]? = none) := by
  refine ⟨by decide, by decide, ⟨imageOf (box 7 0 0 0 1 1), by decide, 0, shown (box 7 3 9 9 1 1), by decide, slotAt_putSlot_same _ _ _,
    Or.inl rfl⟩, ?_, by decide⟩
  rintro ⟨m, _, i, p, _, h, _⟩
  rw [show slotAt (worked [] 31 31).slots i = none from slotAt_reset i] at h
  cases h

theorem witness_Advance :
    ((∀ p : Plate, slotAt (single p).slots 31 = some p) ∧ slotAt (worked [] 0 31).slots 31 = none) ∧
    (∃ p : Plate, p.new = true) ∧
    (∃ p : Plate, p.new = false ∧ p.state = .armed ∧ p.start = .atField 5 ∧ (5 - 5 : FieldNo).toNat < 2147483648 ∧
      ¬ (5 - 6 : FieldNo).toNat < 2147483648) ∧
    (∃ p : Plate, p.state = .armed ∧ ∀ g, p.start = .atField g → ¬ (5 - g : FieldNo).toNat < 2147483648) ∧
    (∃ p : Plate, p.state = .shown ∧ p.lifetime = 1 ∧ p.fadeStep = 0) ∧
    (∃ p : Plate, p.state = .shown ∧ p.lifetime ≠ 1 ∧ p.mix = p.mixTarget) ∧
    (∃ p : Plate, p.mix ≠ p.mixTarget ∧ p.fadeStep = 0) ∧
    (∃ p : Plate, p.mix ≠ p.mixTarget ∧ p.fadePhase + 1 < p.fadeStep) ∧
    (∃ p : Plate, p.mix < p.mixTarget ∧ p.fadeStep ≠ 0 ∧ p.fadeStep ≤ p.fadePhase + 1) ∧
    (∃ p : Plate, p.mixTarget < p.mix ∧ p.fadeStep ≠ 0 ∧ p.fadeStep ≤ p.fadePhase + 1) ∧
    (∃ p : Plate, p.state = .closing ∧ p.mix = 0) ∧ (∃ p : Plate, p.state = .closing ∧ p.mix ≠ 0 ∧ p.fadePhase + 1 < p.fadeStep) ∧
    (∃ p : Plate, p.state = .closing ∧ p.mix = 1 ∧ p.fadeStep ≤ p.fadePhase + 1) ∧
    (∃ p : Plate, p.state = .shown ∧ p.lifetime = 1 ∧ p.fadeStep ≠ 0 ∧ 1 < p.mix ∧ p.fadeStep ≤ 0 + 1) ∧
    ∃ p : Plate, p.InRange ∧ p.fadeStep ≠ 0 := by
  refine ⟨⟨single_slot, slotAt_reset 31⟩, ⟨{ shown extreme with new := true }, rfl⟩,
    ⟨{ shown { extreme with start := .atField 5 } with state := .armed, mix := 0 }, rfl, rfl, rfl, by decide, by decide⟩,
    ⟨{ shown { extreme with start := .onCue } with state := .armed }, rfl, fun g h => by cases h⟩,
    ⟨shown { box 1 0 0 0 1 1 with lifetime := 1 }, by decide⟩, ⟨shown extreme, by decide⟩,
    ⟨{ shown (box 1 0 0 0 1 1) with mix := 3 }, by decide⟩, ⟨{ shown extreme with mix := 15, fadePhase := 13 }, by decide⟩,
    ⟨{ shown extreme with mix := 15, fadePhase := 14 }, by decide⟩,
    ⟨{ shown { extreme with mixTarget := 0 } with mix := 16, fadePhase := 14 }, by decide⟩,
    ⟨{ shown extreme with state := .closing, mix := 0 }, by decide⟩, ⟨{ shown extreme with state := .closing, fadePhase := 13 }, by decide⟩,
    ⟨{ shown extreme with state := .closing, mix := 1, fadePhase := 14 }, by decide⟩,
    ⟨shown { extreme with lifetime := 1, fadeStep := 1 }, by decide⟩,
    ⟨shown extreme, ⟨extreme_inRange, by decide, by decide, by decide, ?_, ?_⟩, by decide⟩⟩
  · intro h; cases h
  · intro h; cases h

/-- A plate that moves down at 6 rows a field with its stop at 304. -/
def dropping (close : Bool) (fade : Nat) : Plate :=
  shown { box 7 1 300 0 8 100 with rowRate := 6, stopRow := some 304, closeAtStop := close, fadeStep := fade }

theorem stops_at_304 : AxisGoes 300 6 (some 304) 304 0 true := by
  have := axisCandidate_goes 300 6 (some 304)
  exact this

theorem stays_at_0 : AxisGoes 0 0 none 0 0 false := by
  have := axisCandidate_goes 0 0 none
  exact this

theorem witness_Motion :
    ((shown (box 7 1 0 0 1 1)).rowRate = 0 ∧ (shown (box 7 1 0 0 1 1)).colRate = 0) ∧
    (¬ ((dropping true 0).rowRate = 0 ∧ (dropping true 0).colRate = 0) ∧ AxisGoes 300 6 (some 304) 304 0 true ∧ AxisGoes 0 0 none 0 0 false) ∧
    (AxisGoes 2040 8 none 2047 0 false ∧ AxisGoes (-1020) (-8) none (-1024) 0 false ∧ AxisGoes 2039 8 none 2047 8 false ∧
      AxisGoes 300 6 (some 306) 306 0 true ∧ AxisGoes 300 6 (some 307) 306 6 false ∧ AxisGoes 300 6 (some 300) 306 6 false) ∧
    (∃ (ts : Slots) (j : Slot) (q : Plate), j ≠ 4 ∧ slotAt ts j = some q ∧
      q.toHostFields.meets { (dropping true 0).toHostFields with top := 304, left := 0 } = true ∧
      ¬ MeetsLive ts (fun k => k = 4 ∨ j ≤ k) { (dropping true 0).toHostFields with top := 304, left := 0 }) ∧
    (¬ MeetsLive State.reset.table.slots (fun k => k = 4) { (dropping true 0).toHostFields with top := 304, left := 0 } ∧
      (dropping true 0).closeAtStop = true ∧ (dropping true 0).state = .shown ∧ (dropping true 0).fadeStep = 0 ∧
      (dropping true 1).fadeStep ≠ 0 ∧ (dropping false 0).closeAtStop = false) := by
  have none_live : ∀ skip h, ¬ MeetsLive State.reset.table.slots skip h := by
    rintro skip h ⟨i, p, _, hp, _⟩; rw [slotAt_reset] at hp; cases hp
  refine ⟨⟨rfl, rfl⟩, ⟨by decide, stops_at_304, stays_at_0⟩,
    ⟨axisCandidate_goes 2040 8 none, axisCandidate_goes (-1020) (-8) none, axisCandidate_goes 2039 8 none,
     axisCandidate_goes 300 6 (some 306), axisCandidate_goes 300 6 (some 307), axisCandidate_goes 300 6 (some 300)⟩,
    ⟨putSlot State.reset.table.slots 1 (some (shown (box 2 1 310 0 20 100))), 1, shown (box 2 1 310 0 20 100), by decide,
      slotAt_putSlot_same _ _ _, by decide, ?_⟩, none_live _ _, by decide⟩
  rintro ⟨i, p, hs, hp, _⟩
  rw [slotAt_putSlot] at hp
  by_cases hi : i = 1
  · exact hs (Or.inr (by rw [hi]))
  · rw [if_neg hi, slotAt_reset] at hp; cases hp

/-! ## Witnesses: lines, keying and the slew -/

/-- The moment at which the line in progress ends, in a raster at the ends of the offset. -/
theorem witness_LineEnd :
    (∀ o ∈ [(4095 : Int), 0, -4095], ({ Raster.reset with offset := o } : Raster).offset.natAbs ≤ 4095) ∧
    ({ Raster.reset with offset := 4095 } : Raster).lineEnd = 13771 ∧ Raster.reset.lineEnd = 13824 ∧
    ({ Raster.reset with offset := -4095 } : Raster).lineEnd = 13879 ∧
    (0 ≤ (0 : Int) ∧ (13823 * 1048576 + 1048575 : Int) < Raster.reset.line16 * 1048576) ∧
    (Raster.reset.outAt 0 = { line := 0, p := 0 } ∧ Raster.reset.outAt 13823 = { line := 0, p := 13823 } ∧
      Raster.reset.outAt (13824 * 625) = { line := 0, p := 0 } ∧ Raster.reset.outAt (-1) = { line := 624, p := 13823 }) := by
  decide +kernel

theorem witness_LineStart :
    (State.reset.seq.marksDue = 0 ∧ ∃ u, exec .fieldBoundary (standing State.reset 312) = .next u) ∧
    (State.reset.raster.segDue = false ∧ State.reset.raster.timeoutNow = false ∧ State.reset.raster.startDue = true) ∧
    ((standing State.reset 22).raster.segDue = false ∧ (standing State.reset 22).raster.timeoutNow = false ∧ (standing State.reset 22).raster.startDue = false ∧
      (standing State.reset 22).raster.atFieldEnd = false ∧ rowOfLine .s625 23 = some 0 ∧ rowOfLine .s625 22 = none) ∧
    ((standing State.reset 312).raster.atFieldEnd = true ∧ (standing State.reset 624).raster.atFieldEnd = true ∧ (standing State.reset 312).raster.timeoutNow = false) ∧
    (rowOverflows 720 300 creditRow = true ∧ rowOverflows 720 300 rowSet = false) ∧
    ((locked .frameLock).rlc.lock = .frameLock ∧ State.reset.rlc.lock = .search ∧ State.reset.keyer.fallback = .cut) ∧
    (23 ≤ 310 ∧ 336 ≤ 623 ∧ 624 = 624 ∧ 20 ≤ 259 ∧ 283 ≤ 522 ∧ 522 < 524) :=
  ⟨⟨rfl, _, rfl⟩, by decide +kernel⟩

theorem witness_SpanList :
    rowSet.Pairwise (fun v w => v.slot < w.slot) ∧ creditRow.Pairwise (fun v w => v.slot < w.slot) ∧
    (∃ v ∈ rowSet, ∃ a, CandidateFor 720 410 v a) ∧ ∃ v ∈ creditRow, ∃ a, CandidateFor 720 300 v a := by
  exact ⟨by decide +kernel, by decide +kernel,
    ⟨⟨11, 33, 3, 380, -50, 40, 80, .box, none, 8⟩, by decide, ⟨11, 3, 0, 29, .box, none, 8⟩, by unfold CandidateFor; decide⟩,
    ⟨⟨1, 1, 3, 290, 20, 30, 10, .box, none, 16⟩, by decide, ⟨1, 3, 20, 29, .box, none, 16⟩, by unfold CandidateFor; decide⟩⟩

/-- Power-on with row 410 keyed by these spans under this decision. -/
def keyed (d : LineDecision) (sps : List Span) : State :=
  { State.reset with keyer := { Keyer.reset with row := some 410, spans := sps, decision := d } }

/-- The spans of row 410. -/
def spans410 : List Span := spanList 720 410 rowSet

theorem witness_Key :
    (State.reset.keyer.row = none ∧ ((-1 : Int) < 0) ∧ (State.reset.raster.width : Int) ≤ 720) ∧
    ((keyed .zero spans410).keyer.decision = .zero ∧ (keyed .full spans410).keyer.decision = .full ∧
      (keyed .normal spans410).keyer.row = some 410 ∧ (719 : Int) < (keyed .normal spans410).raster.width) ∧
    (keyed .normal []).keyer.spans = [] ∧
    (∃ sp ∈ spans410, sp.slot = 5 ∧ sp.leftCol ≤ 100 ∧ 100 ≤ sp.rightCol ∧ 0 < contribution Keyer.reset.live 3 sp ∧ sp.layer ≤ 3 ∧
      ∀ sq ∈ spans410, sq ≠ sp → sq.leftCol ≤ 100 → 100 ≤ sq.rightCol → 0 < contribution Keyer.reset.live 3 sq → sq.layer < sp.layer) ∧
    ((∀ sp ∈ spans410, sp.mix ≤ 16) ∧ ∀ j, Keyer.reset.live.get j ≤ 4) ∧
    (∃ sp ∈ spans410, sp.keyMode = .box) ∧ (∃ sp ∈ spans410, sp.keyMode = .index ∧ sp.transIndex = some (0 : Fin 16).val) ∧
    ∃ sp ∈ spans410, sp.keyMode = .index ∧ sp.transIndex ≠ some (15 : Fin 16).val := by decide +kernel

/-- A slew with a segment end due. -/
def ramping (w : Ramp) (o : Int) : State :=
  { locked .frameLock with raster := { Raster.reset with slew := .slew w, offset := o, segDue := true } }

/-- HOLD in SEARCH with a segment end due. -/
def decaying (o : Int) : State := { State.reset with raster := { Raster.reset with offset := o, segDue := true } }

/-- A slew whose timeout align is due, at the start of field line 0 taken. -/
def timedOut : State :=
  { locked .frameLock with raster := { Raster.reset with slew := .slew ⟨.cruise, true, 900⟩, timeoutDue := true, startDue := false } }

theorem witness_Segments :
    ((ramping ⟨.up, true, 0⟩ 0).raster.slew = .slew ⟨.up, true, 0⟩ ∧ (ramping ⟨.up, true, 0⟩ 0).raster.segDue = true ∧
      1 ≤ (ramping ⟨.up, true, 0⟩ 0).raster.params.rampStep) ∧
    (StepsToward 8 0 12 (stepToZero 8 12) ∧ StepsToward 8 0 (-8) (stepToZero 8 (-8)) ∧ StepsToward 8 256 250 (stepToward 8 256 250) ∧
      StepsToward 8 (-256) 250 (stepToward 8 (-256) 250)) ∧
    (RampDownDistance RasterParams.reset .s625 12 55296 ∧ (4 : Int).natAbs * 65536 > 55296 ∧ (0 : Int).natAbs * 65536 ≤ 55296) ∧
    (((true = true ∧ (-1 : Int) < 0) ∧ RampStage.down = .down) ∧ RampStage.cruise ≠ .down ∧ (0 : Int) < 12) ∧
    ((decaying 1).raster.slew = .hold ∧ (decaying 1).raster.segDue = true ∧ (decaying 1).rlc.lock = .search) ∧
    State.reset.raster.segDue = false ∧
    (({ Raster.reset with slew := .track } : Raster).slew ≠ .hold ∧
      (14 + 1 < Raster.reset.params.segmentLength ∧ Raster.reset.params.segmentLength ≤ 15 + 1)) ∧
    ((∃ w, (slewing .up 0).raster.slew = .slew w) ∧ ∀ w, State.reset.raster.slew ≠ .slew w) ∧
    (timedOut.raster.timeoutDue = true ∧ timedOut.raster.startDue = false ∧ fieldLine timedOut.raster.std timedOut.raster.line = 0 ∧
      (∃ w, timedOut.raster.slew = .slew w) ∧ timedOut.raster.segDue = false ∧ timedOut.seq.marksDue = 0) ∧
    State.reset.raster.timeoutDue = false :=
  ⟨⟨rfl, rfl, by decide⟩, ⟨stepToZero_spec 8 12, stepToZero_spec 8 (-8), stepToward_spec 8 256 250, stepToward_spec 8 (-256) 250⟩,
   ⟨by unfold RampDownDistance; decide +kernel, by decide, by decide⟩, by decide, ⟨rfl, rfl, rfl⟩, rfl, ⟨by decide, by decide⟩,
   ⟨⟨_, rfl⟩, fun w h => by cases h⟩, ⟨rfl, rfl, by decide, ⟨_, rfl⟩, rfl, rfl⟩, rfl⟩

/-! ## Witnesses: the reference -/

/-- SEARCH or FLYWHEEL with a last sync at 0 and this count of good lines; the qualify count is 32. -/
def qualifying (l : LockState) (n : Nat) : State :=
  { locked l with rlc := { (locked l).rlc with lastSync := some 0, goodCount := n } }

theorem witness_LineSyncs :
    (Input.b ≠ State.reset.rlc.source ∧ Input.a = State.reset.rlc.source ∧ State.reset.rlc.lock = .search ∧
      State.reset.rlc.lastSync = none) ∧
    (∀ l n, (qualifying l n).rlc.lastSync = some 0 ∧ (qualifying l n).rlc.lock = l ∧ (qualifying l n).rlc.source = .a) ∧
    ((¬ Forbids (qualifying .search 30).rlc.setting .s625 ∧ NearNominal RasterParams.reset 32 .s625 (13824 + 32)) ∧
      (qualifying .search 30).rlc.goodCount + 1 < (qualifying .search 30).rlc.inForce.qualify ∧
      (qualifying .search 31).rlc.inForce.qualify ≤ (qualifying .search 31).rlc.goodCount + 1 ∧
      ¬ ∃ std, NearNominal RasterParams.reset 32 std (13824 + 33)) ∧
    ((qualifying .flywheel 31).rlc.standard = some .s625 ∧ NearNominal RasterParams.reset 32 .s625 (13824 - 32) ∧
      (qualifying .flywheel 31).rlc.lock = .flywheel) ∧
    ((locked .lineLock).rlc.lock = .lineLock ∧ (locked .lineLock).rlc.prediction = some 20000 ∧ (locked .lineLock).rlc.entered = true ∧
      (locked .lineLock).rlc.windowSync = none ∧ (20000 : Int) - 32 ≤ 20032 ∧ (20032 : Int) ≤ 20000 + 32 ∧
      ¬ ((20000 : Int) - 32 ≤ 20033 ∧ (20033 : Int) ≤ 20000 + 32)) ∧
    (locked .frameLock).rlc.lock = .frameLock ∧ ∃ s : State, s.rlc.entered = true ∧ s.rlc.windowSync ≠ none := by
  have auto : ¬ Forbids .auto .s625 := by rw [← StandardSetting.allows_iff]; decide
  refine ⟨by decide, fun l n => ⟨rfl, rfl, rfl⟩, ⟨⟨auto, by unfold NearNominal; decide⟩, by decide, by decide, ?_⟩, ⟨rfl, by unfold NearNominal; decide, rfl⟩, ⟨rfl, rfl, rfl, rfl, by decide⟩, rfl,
    ⟨{ locked .lineLock with rlc := { (locked .lineLock).rlc with windowSync := some 20000 } }, rfl, by decide⟩⟩
  rintro ⟨std, h⟩
  unfold NearNominal at h
  revert h
  cases std <;> decide

/-- FRAME LOCK with this slew state of the raster, and the line's zone reached or not. -/
def measuring (w : Slew) (count : Nat) : State :=
  { locked .frameLock with
    rlc := { (locked .frameLock).rlc with assignA := .tape, field := some ⟨.first, count, false⟩ }
    raster := { Raster.reset with slew := w } }

theorem witness_PhaseErrors :
    (∀ w n, RasterRanges (measuring w n).raster ∧ (measuring w n).rlc.lock = .frameLock ∧ (measuring w n).rlc.prediction = some 20000 ∧
      (measuring w n).rlc.entered = true ∧ (measuring w n).rlc.windowSync = none ∧ (measuring w n).rlc.standard = some .s625 ∧
      (measuring w n).rlc.field = some ⟨.first, n, false⟩) ∧
    ((20000 : Int) - 128 ≤ 20128 ∧ (20128 : Int) ≤ 20000 + 128 ∧
      ∀ l, (unentered l).rlc.lock = l ∧ (unentered l).rlc.entered = false ∧ (unentered l).rlc.prediction = some 20000) ∧
    (InZone (measuring .track 305).rlc ∧ ¬ InZone (measuring .track 304).rlc ∧ Standard.s525 ≠ (measuring .track 0).raster.std) ∧
    ((measuring .hold 0).raster.slew = .hold ∧ (measuring .track 0).raster.slew = .track ∧
      (measuring (.slew ⟨.up, true, 900⟩) 0).raster.slew = .slew ⟨.up, true, 900⟩) ∧
    ((64 : Int).natAbs ≤ 16 * RasterParams.reset.captureWindow ∧ 16 * RasterParams.reset.captureWindow < (65 : Int).natAbs) := by
  refine ⟨fun w n => ⟨ranges_reset, rfl, rfl, rfl, rfl, rfl, rfl⟩, ⟨by decide, by decide, fun _ => ⟨rfl, rfl, rfl⟩⟩,
    ⟨⟨rfl, .s625, ⟨.first, 305, false⟩, rfl, rfl, by decide⟩, ?_, by decide⟩, ⟨rfl, rfl, rfl⟩, by decide⟩
  rintro ⟨_, std, f, h1, h2, h3⟩
  cases h1; cases h2
  revert h3; decide

/-- FRAME LOCK or LINE LOCK under BROADCAST, whose miss limit is 8 and zone 0, with this miss count and window sync. -/
def missing (l : LockState) (n : Nat) (sync : Option Time) : State :=
  { locked l with rlc := { (locked l).rlc with missCount := n, windowSync := sync, lineGood := true } }

theorem witness_Windows :
    (∀ l n x, (missing l n x).rlc.lock = l ∧ (missing l n x).rlc.prediction = some 20000 ∧ (missing l n x).rlc.entered = true ∧
      (missing l n x).rlc.windowSync = x ∧ (missing l n x).rlc.lineGood = true) ∧
    ((∃ s : State, s.rlc.lock = .lineLock ∧ s.rlc.prediction = some 0 ∧ s.rlc.entered = false) ∧
      ∃ s : State, s.rlc.lineGood = false) ∧
    (¬ InZone (missing .lineLock 7 none).rlc ∧ (missing .lineLock 7 none).rlc.inForce.missLimit ≤ 7 + 1 ∧
      ¬ (missing .frameLock 6 none).rlc.inForce.missLimit ≤ 6 + 1) ∧
    (¬ InZone (missing .frameLock 7 none).rlc ∧ InZone (measuring .track 312).rlc) ∧
    (State.reset.rlc.lock ≠ .lineLock ∧ State.reset.rlc.lock ≠ .frameLock ∧ State.reset.rlc.prediction = none) ∧
    ((locked .flywheel).rlc.lock = .flywheel ∧ (locked .flywheel).rlc.prediction = some 20000) ∧ State.reset.rlc.lock ≠ .flywheel ∧
    (∃ f : RefField, (locked .flywheel).rlc.field = some f ∧ f.count + 1 < expectedLines .s625 f.id) ∧
    ((measuring .track 312).rlc.field = some ⟨.first, 312, false⟩ ∧ expectedLines .s625 .first ≤ 312 + 1) := by
  refine ⟨fun l n x => ⟨rfl, rfl, rfl, rfl, rfl⟩, ⟨⟨{ State.reset with rlc := { RefLock.reset with lock := .lineLock, prediction := some 0 } },
    rfl, rfl, rfl⟩, ⟨State.reset, rfl⟩⟩, ⟨?_, by decide, by decide⟩, ⟨?_, ⟨rfl, .s625, ⟨.first, 312, false⟩, rfl, rfl, by decide⟩⟩, by decide,
    ⟨rfl, rfl⟩, by decide, ⟨⟨.first, 100, false⟩, rfl, by decide⟩, ⟨rfl, by decide⟩⟩
  · rintro ⟨h, _⟩; cases h
  · rintro ⟨_, std, f, h1, h2, h3⟩
    cases h1; cases h2
    revert h3; decide

/-- LINE LOCK with n lines counted since the first field sync of a pair, under this setting. -/
def paired (n : Option Nat) (z : StandardSetting) : State :=
  { locked .lineLock with rlc := { (locked .lineLock).rlc with pair := n, setting := z, standard := none } }

/-- FLYWHEEL waiting for confirmation under this setting. -/
def waitingFor (z : StandardSetting) : State :=
  { locked .flywheel with rlc := { (locked .flywheel).rlc with waiting := true, setting := z } }

/-- FRAME LOCK with this field and count of disagreements. -/
def inField (f : RefField) (n : Nat) : State :=
  { locked .frameLock with rlc := { (locked .frameLock).rlc with field := some f, parityCount := n } }

/-- 07 R139 (log 22): a field sync at the opening of the next window enters the predicted line; one just before belongs to the last. -/
theorem test_field_sync_before_its_line :
    (fun s => (s.rlc.entered, s.rlc.pair)) (after (.fieldSync .a .onLine 19968) (unentered .lineLock)) = (true, some 0) ∧
    (fun s => (s.rlc.entered, s.rlc.pair)) (after (.fieldSync .a .onLine 19967) (unentered .lineLock)) = (false, some 0) := by
  decide +kernel

/-- 07 R146 (log 20): a confirmation two measured periods and a part after the last good line sync. -/
theorem test_retimed_by_whole_periods :
    (fun c : RefLock => (c.lineTime, c.prediction, c.lineGood, c.sinceGood))
        ({ (waitingFor .auto).rlc with goodTime := 1000 }.retime (1000 + 2 * 13824 + 13823)) = (28648, some 42472, false, 2) := by
  decide +kernel

theorem witness_EntersFrameLock :
    (∀ n z, (paired n z).raster.std = .s625 ∧ Standard.s525 ≠ (paired n z).raster.std ∧ (paired n z).rlc.lineOut = none) ∧
    ((locked .lineLock).rlc.takeWindowSync 20000 ⟨0, 0⟩).lineOut = some ⟨0, 0⟩ ∧
    ((64 : Int).natAbs ≤ 16 * Raster.reset.params.captureWindow ∧ 16 * Raster.reset.params.captureWindow < (-65 : Int).natAbs) ∧
    (({ Raster.reset with params := { RasterParams.reset with quickAlign := true } } : Raster).params.quickAlign = true ∧
      State.reset.keyer.visible = [] ∧ ¬ (Raster.reset.params.quickAlign = true ∧ State.reset.keyer.visible = [])) ∧
    ∀ l, (unentered l).rlc.entered = false ∧ (unentered l).rlc.prediction = some 20000 ∧
      20000 - ((unentered l).rlc.inForce.lineWindow : Int) * 16 ≤ 19968 :=
  ⟨fun _ _ => ⟨rfl, (nomatch ·), rfl⟩, rfl, by decide, by decide, fun l => ⟨rfl, rfl, by cases l <;> decide⟩⟩

theorem witness_FieldSyncs :
    (RasterRanges State.reset.raster ∧ Input.b ≠ State.reset.rlc.source ∧ State.reset.rlc.lock = .search ∧
      (locked .flywheel).rlc.lock = .flywheel ∧ (locked .flywheel).rlc.waiting = false) ∧
    (∀ n z, Input.a = (paired n z).rlc.source ∧ (paired n z).rlc.lock = .lineLock ∧ (paired n z).rlc.entered = true ∧
      (paired n z).rlc.pair = n ∧ (paired n z).rlc.setting = z) ∧
    ((311 : Nat) ∉ [262, 263, 312, 313] ∧ (312 : Nat) ∈ [312, 313] ∧ (313 : Nat) ∈ [312, 313] ∧ (262 : Nat) ∈ [262, 263] ∧
      (263 : Nat) ∈ [262, 263]) ∧
    (Forbids .only525 .s625 ∧ Forbids .only625 .s525 ∧ ¬ Forbids .auto .s625 ∧ ¬ Forbids .only525 .s525) ∧
    (∃ s : State, s.rlc.lock = .lineLock ∧ s.rlc.entered = false ∧ s.rlc.prediction = some 20000 ∧
      (19967 : Int) < 20000 - (s.rlc.inForce.lineWindow : Int) * 16) ∧
    (∀ f n, (inField f n).rlc.lock = .frameLock ∧ (inField f n).rlc.entered = true ∧ (inField f n).rlc.standard = some .s625 ∧
      (inField f n).rlc.field = some f ∧ (inField f n).rlc.parityCount = n ∧ (inField f n).att.syncFault.pending = false) ∧
    ((({ id := .first, count := 0, predicted := true } : RefField).predicted = true) ∧ 1 ≤ 1 ∧ 7 ≤ 7 ∧ 8 ≤ 8 ∧
      (if FieldId.second = FieldId.first then 0 else 0 + 1) < 2 ∧ 2 ≤ (if FieldId.second = FieldId.first then 0 else 1 + 1)) ∧
    (∀ z, (waitingFor z).rlc.lock = .flywheel ∧ (waitingFor z).rlc.waiting = true ∧ (waitingFor z).rlc.standard = some .s625) := by
  refine ⟨⟨ranges_reset, by decide, rfl, rfl, rfl⟩, fun n z => ⟨rfl, rfl, rfl, rfl, rfl⟩, by decide,
    ⟨Or.inr ⟨rfl, rfl⟩, Or.inl ⟨rfl, rfl⟩, ?_, ?_⟩,
    ⟨{ paired (some 312) .auto with rlc := { (paired (some 312) .auto).rlc with entered := false } }, rfl, rfl, rfl, by decide⟩,
    fun f n => ⟨rfl, rfl, rfl, rfl, rfl, rfl⟩, by decide, fun z => ⟨rfl, rfl, rfl⟩⟩
  · rintro (⟨h, _⟩ | ⟨h, _⟩) <;> cases h
  · rintro (⟨h, _⟩ | ⟨_, h⟩) <;> cases h

/-! ## Witnesses: the invariants -/

theorem cues_reset (i : CueIndex) : (State.reset.seq.cues.get i).inRange = true := by revert i; decide +kernel

theorem scenes_reset (n : SceneNo) : State.reset.scenes.get n = Scene.empty := by revert n; decide

/-- Power-on with a command waiting meets every invariant, and its step answers a next state. -/
def commanded : State := { State.reset with pending := [.fieldBoundary] }

theorem witness_Invariants : ∃ t, Sys2Proof.Machine.step commanded = .next t := ⟨_, rfl⟩

theorem witness_TableLaws : TableInvariant commanded := by
  refine ⟨?_, ?_, ?_⟩
  · intro i j p q _ h; exact absurd h (by rw [show slotAt commanded.table.slots i = none from slotAt_reset i]; simp)
  · intro n; rw [show commanded.scenes.get n = Scene.empty from scenes_reset n]; exact ⟨by decide, List.Pairwise.nil, fun _ => ⟨rfl, rfl⟩⟩
  · intro i p h; rw [show slotAt commanded.table.slots i = none from slotAt_reset i] at h; cases h

theorem witness_Ranges : RangeInvariant commanded := by
  refine ⟨?_, ?_, ?_, cues_reset, by decide, Or.inl (by decide)⟩
  · intro i p h; rw [show slotAt commanded.table.slots i = none from slotAt_reset i] at h; cases h
  · intro n m h; rw [show commanded.scenes.get n = Scene.empty from scenes_reset n] at h; cases h
  · intro a h; cases h

theorem witness_Sizes : SizeInvariant commanded ∧ AttentionInvariant commanded := by
  exact ⟨⟨by decide, by decide, by decide, fun j h => by cases h⟩, attention_reset⟩

theorem witness_Counts : CountingInvariant commanded := by
  refine ⟨⟨rfl, rfl⟩, cues_reset, (fun h => nomatch h), (fun h => nomatch h), ?_⟩
  exact ⟨fun _ => rfl, fun h => absurd rfl h, fun _ => rfl, fun h => absurd rfl h⟩

theorem witness_Timing : TimingInvariant commanded := by
  exact ⟨ranges_reset, rfl, by decide, ⟨fun _ => by decide, fun _ => rfl⟩, rfl, rfl⟩

end Sys2Proof.Machine.Tests
end

section
/-! PROOFS. The store of the part: the table, the scenes and the cue list, and what any one command can do to them. -/

namespace Sys2Proof.Machine

/-- The three parts of the state that keep plates and what becomes of them: the Plate Table, the scenes and the cue list. -/
structure Store where
  table : PlateTable
  scenes : Scenes
  cues : Vector CueEntry 128

/-- The store of a state. -/
def State.store (s : State) : Store := { table := s.table, scenes := s.scenes, cues := s.seq.cues }

/-! ## Operations that leave the store -/

@[simp] theorem withPort_store (s : State) (v : Port) : (s.withPort v).store = s.store := rfl
@[simp] theorem withKeyer_store (s : State) (v : Keyer) : (s.withKeyer v).store = s.store := rfl
@[simp] theorem withClock_store (s : State) (v : FieldClock) : (s.withClock v).store = s.store := rfl
@[simp] theorem withRlc_store (s : State) (v : RefLock) : (s.withRlc v).store = s.store := rfl
@[simp] theorem withRaster_store (s : State) (v : Raster) : (s.withRaster v).store = s.store := rfl
@[simp] theorem withAtt_store (s : State) (v : Attention) : (s.withAtt v).store = s.store := rfl
@[simp] theorem withPending_store (s : State) (v : List Instr) : (s.withPending v).store = s.store := rfl
@[simp] theorem raise_store (s : State) (d : Detail) : (raise s d).store = s.store := rfl
@[simp] theorem raiseAll_store (s : State) (ds : List Detail) : (raiseAll s ds).store = s.store := rfl
@[simp] theorem reply_store (s : State) (c : Byte) (b : List Byte) : (reply s c b).store = s.store := rfl
@[simp] theorem replyOkTo_store (s : State) : (replyOkTo s).store = s.store := rfl
@[simp] theorem consume_store (s : State) (n : Nat) : (consume s n).store = s.store := rfl
@[simp] theorem hand_store (s : State) (es : List CountEvent) : (hand s es).store = s.store := rfl
@[simp] theorem takeCountDone_store (s : State) : (takeCountDone s).store = s.store := rfl
@[simp] theorem takeHalt_store (s : State) : (takeHalt s).store = s.store := rfl
@[simp] theorem running_store (s : State) : (s.withSeq s.seq.running).store = s.store := rfl
@[simp] theorem settleSegments_store (s : State) : (settleSegments s).store = s.store := rfl
@[simp] theorem takeLineStart_store (s : State) : (takeLineStart s).store = s.store := rfl

/-- A new sequencer with the same cue list leaves the store. -/
theorem withSeq_store {s : State} {q : Sequencer} (h : q.cues = s.seq.cues) : (s.withSeq q).store = s.store := by
  simp [State.store, h]

@[simp] theorem trigger_store (s : State) : (trigger s).store = s.store := by simp [State.store]

@[simp] theorem settleMark_store (s : State) : (settleMark s).store = s.store := by
  unfold settleMark takeMark
  dsimp only
  split
  · rfl
  · split
    · simp [withSeq_store]
    · rfl

@[simp] theorem addFaults_store (s : State) (k : SyncFaults) : (addFaults s k).store = s.store := by rw [addFaults_frame]; rfl
@[simp] theorem changeLock_store (s : State) (l : LockState) : (changeLock s l).store = s.store := by rw [changeLock_frame]; rfl
@[simp] theorem enterSearch_store (s : State) : (enterSearch s).store = s.store := by rw [enterSearch_frame]; rfl
@[simp] theorem enterFlywheel_store (s : State) : (enterFlywheel s).store = s.store := by
  unfold enterFlywheel; rw [changeLock_store]; rfl
@[simp] theorem settleShare_store (s : State) : (settleShare s).store = s.store := by rw [settleShare_frame]; rfl

@[simp] theorem measurePhase_store (s : State) (z : OutPos) (t : Time) : (measurePhase s z t).store = s.store := by
  unfold measurePhase
  split
  · split <;> rfl
  · rfl

@[simp] theorem dropToLineLock_store (s : State) (p : Option Nat) : (dropToLineLock s p).store = s.store := by
  unfold dropToLineLock; rw [changeLock_store]; rfl

@[simp] theorem applySetting_store (s : State) : (applySetting s).store = s.store := by
  unfold applySetting
  split <;> simp

@[simp] theorem moveForSwitch_store (s : State) : (moveForSwitch s).store = s.store := by
  unfold moveForSwitch
  split <;> simp

@[simp] theorem loseLines_store (s : State) : (loseLines s).store = s.store := by
  unfold loseLines
  split <;> simp

@[simp] theorem closeWindow_store (s : State) : (closeWindow s).store = s.store := by
  unfold closeWindow
  dsimp only
  split <;> simp

@[simp] theorem searchSync_store (t : Time) (s : State) : (searchSync t s).store = s.store := by
  unfold searchSync
  split
  · rfl
  · dsimp only
    split
    · split <;> simp
    · rfl

@[simp] theorem flywheelSync_store (t : Time) (s : State) : (flywheelSync t s).store = s.store := by
  unfold flywheelSync
  split
  · rfl
  · split <;> rfl

@[simp] theorem windowedSync_store (t : Time) (s : State) : (windowedSync t s).store = s.store := by
  unfold windowedSync
  dsimp only
  split
  · split <;> simp
  · rfl

@[simp] theorem lineSync_store (input : Input) (t : Time) (s : State) : (lineSync input t s).store = s.store := by
  unfold lineSync
  split
  · split <;> simp
  · rfl

@[simp] theorem passFlywheelLine_store (s : State) : (passFlywheelLine s).store = s.store := by
  unfold passFlywheelLine
  split <;> rfl

@[simp] theorem checkField_store (std : Standard) (f : RefField) (pat : Pattern) (s : State) :
    (checkField std f pat s).store = s.store := by
  unfold checkField
  dsimp only
  split <;> simp

@[simp] theorem frameSync_store (pat : Pattern) (t : Time) (s : State) : (frameSync pat t s).store = s.store := by
  unfold frameSync
  dsimp only
  split <;> simp

@[simp] theorem writeMark_store (m : Mark) (n : Nat) (s : State) : (writeMark m n s).store = s.store := by
  unfold writeMark
  split <;> rfl

@[simp] theorem takeInterval_store (s : State) : (takeInterval s).store = s.store := by
  unfold takeInterval
  dsimp only
  split <;> simp [withSeq_store]

@[simp] theorem cueInEdge_store (s : State) : (cueInEdge s).store = s.store := by
  unfold cueInEdge
  dsimp only
  split <;> simp

@[simp] theorem finishCue_store (s : State) (e : CueEntry) : (finishCue s e).store = s.store := by
  have hcues : ∀ (q : Sequencer) (n : Nat) (z : Ending), (q.ending e n z).cues = q.cues := by
    intro q n z; cases z <;> rfl
  unfold finishCue
  dsimp only
  rw [hand_store]
  exact withSeq_store (hcues _ _ _)

@[simp] theorem writeRequestByte_store (b : Byte) (s : State) : (writeRequestByte b s).store = s.store := by
  unfold writeRequestByte
  split
  · rfl
  · split <;> rfl

@[simp] theorem readReplyByte_store (s : State) : (readReplyByte s).store = s.store := by
  unfold readReplyByte
  split <;> rfl

@[simp] theorem clearCauses_store (l : BitVec 2) (b : Byte) (s : State) : (clearCauses l b s).store = s.store := by
  unfold clearCauses
  split
  · rfl
  · split <;> rfl

@[simp] theorem refuseUnknown_store (s : State) : (refuseUnknown s).store = s.store := by
  unfold refuseUnknown
  split
  · rfl
  · split <;> rfl

@[simp] theorem refuseUnframeable_store (s : State) : (refuseUnframeable s).store = s.store := by
  unfold refuseUnframeable
  split <;> rfl

@[simp] theorem writeReport_store (s : State) : (writeReport s).store = s.store := by
  unfold writeReport
  split
  · split <;> rfl
  all_goals rfl

@[simp] theorem answerQuery_store (t : Byte) (s : State) : (answerQuery t s).store = s.store := by
  unfold answerQuery
  dsimp only
  split <;> rfl

@[simp] theorem answerProbe_store (r c : Nat) (s : State) : (answerProbe r c s).store = s.store := by
  unfold answerProbe
  dsimp only
  split <;> rfl

@[simp] theorem examineSlot_store (j : ListJob) (i : Slot) (s : State) : (examineSlot j i s).store = s.store := by
  unfold examineSlot
  split
  · rfl
  · split <;> rfl

@[simp] theorem stepList_store (s : State) : (stepList s).store = s.store := by
  unfold stepList
  split
  · split
    · split <;> simp
    · rfl
  all_goals rfl

@[simp] theorem resumeList_store (s : State) : (resumeList s).store = s.store := by
  unfold resumeList
  split
  · split <;> rfl
  all_goals rfl

@[simp] theorem endList_store (s : State) : (endList s).store = s.store := by
  unfold endList
  split
  · split <;> rfl
  all_goals rfl

/-- A boundary leaves the scenes and the cue list, and the table that its four parts leave (02 R38). -/
theorem takeBoundary_store (s : State) :
    (takeBoundary s).store = { s.store with table := (tableBoundary (s.clock.counter + 1) s.scenes s.table).table } := by
  have hcues : (takeBoundary s).seq.cues = s.seq.cues := by
    rw [takeBoundary_eq]
    dsimp only
    rw [Sequencer.boundary_frame, clockBoundary_frame, settleShare_frame]
  simp [State.store, hcues]

/-! ## Requests that leave the store -/

theorem withOperands_store {ok : Bool} {k : State → State} (h : ∀ s, (k s).store = s.store) (s : State) :
    (withOperands ok k s).store = s.store := by
  cases ok
  · rfl
  · exact h s

theorem whenHalted_store {k : State → State} (h : ∀ s, (k s).store = s.store) (s : State) :
    (whenHalted k s).store = s.store := by
  unfold whenHalted
  split
  · exact h s
  · rfl

theorem withRequest_store (r : ReqInfo) {k : List Byte → State → State} (h : ∀ ops s, (k ops s).store = s.store) (s : State) :
    (withRequest r k s).store = s.store := by
  unfold withRequest
  split
  · rfl
  · split
    · split
      · exact h _ _
      · rfl
    · rfl

@[simp] theorem selectSource_store (ops : List Byte) (s : State) : (selectSource ops s).store = s.store :=
  withOperands_store (fun s => by split <;> simp) s
@[simp] theorem setProfile_store (ops : List Byte) (s : State) : (setProfile ops s).store = s.store :=
  withOperands_store (fun _ => by rfl) s
@[simp] theorem setInput_store (ops : List Byte) (s : State) : (setInput ops s).store = s.store :=
  withOperands_store (fun _ => by rfl) s
@[simp] theorem setStandard_store (ops : List Byte) (s : State) : (setStandard ops s).store = s.store :=
  withOperands_store (fun s => by simp) s
@[simp] theorem readTiming_store (s : State) : (readTiming s).store = s.store := rfl
@[simp] theorem setFieldCount_store (ops : List Byte) (s : State) : (setFieldCount ops s).store = s.store := rfl
@[simp] theorem setMark_store (ops : List Byte) (s : State) : (setMark ops s).store = s.store :=
  withOperands_store (fun s => by simp) s
@[simp] theorem setInterval_store (ops : List Byte) (s : State) : (setInterval ops s).store = s.store :=
  withOperands_store (fun _ => by rfl) s
@[simp] theorem setCounter_store (ops : List Byte) (s : State) : (setCounter ops s).store = s.store :=
  withOperands_store (fun _ => by rfl) s
@[simp] theorem readCounters_store (s : State) : (readCounters s).store = s.store := rfl
@[simp] theorem query_store (ops : List Byte) (s : State) : (query ops s).store = s.store :=
  withOperands_store (answerQuery_store _) s
@[simp] theorem probe_store (ops : List Byte) (s : State) : (probe ops s).store = s.store :=
  withOperands_store (answerProbe_store _ _) s
@[simp] theorem beginList_store (ops : List Byte) (s : State) : (beginList ops s).store = s.store :=
  withOperands_store (fun _ => by rfl) s
@[simp] theorem setLevels_store (ops : List Byte) (s : State) : (setLevels ops s).store = s.store :=
  withOperands_store (fun _ => by rfl) s
@[simp] theorem setKeying_store (ops : List Byte) (s : State) : (setKeying ops s).store = s.store :=
  withOperands_store (fun _ => by rfl) s
@[simp] theorem readCues_store (ops : List Byte) (s : State) : (readCues ops s).store = s.store :=
  withOperands_store (fun _ => by rfl) s
@[simp] theorem setSequencer_store (ops : List Byte) (s : State) : (setSequencer ops s).store = s.store :=
  withOperands_store (whenHalted_store fun _ => by rfl) s
@[simp] theorem start_store (ops : List Byte) (s : State) : (start ops s).store = s.store :=
  withOperands_store (whenHalted_store fun _ => by rfl) s
@[simp] theorem halt_store (s : State) : (halt s).store = s.store := rfl
@[simp] theorem stepTrigger_store (s : State) : (stepTrigger s).store = s.store := trigger_store s
@[simp] theorem readScenes_store (s : State) : (readScenes s).store = s.store := rfl
@[simp] theorem beginSync_store (s : State) : (beginSync s).store = s.store := rfl
@[simp] theorem setEnables_store (ops : List Byte) (s : State) : (setEnables ops s).store = s.store := rfl
@[simp] theorem readAttention_store (s : State) : (readAttention s).store = s.store := rfl

/-! ## What one command can do to the store -/

/-- Every cue of the list lies in the ranges of 04 R80. -/
def Store.CuesInRange (σ : Store) : Prop := ∀ i, (σ.cues.get i).inRange = true

/-- The store with an amendment at the end of the queue (02 R33). -/
def Store.post (σ : Store) (a : Amendment) : Store := { σ with table := { σ.table with queue := σ.table.queue ++ [a] } }

/-- The store after the boundary that carries f (02 R38). -/
def Store.boundary (σ : Store) (f : FieldNo) : Store := { σ with table := (tableBoundary f σ.scenes σ.table).table }

/-- The store with scene n replaced (05 R107, R109). -/
def Store.setScene (σ : Store) (n : SceneNo) (c : Scene) : Store := { σ with scenes := σ.scenes.set n.val c n.isLt }

/-- The scene that a SAVE SCENE in the field f makes of the table (05 R107). -/
def Store.saved (σ : Store) (f : FieldNo) : Scene :=
  { valid := true, savedField := f, images := savedImages σ.table.slots σ.table.pinned }

/-- What one command can make of the store: nothing; one amendment posted, in range as far as the cues are; a boundary taken; the table
emptied; power-on; a scene saved or cleared; cues in range written. -/
inductive StoreEffect : Store → Store → Prop
  | keep (σ : Store) : StoreEffect σ σ
  | post (σ : Store) (a : Amendment) (h : σ.CuesInRange → a.op.InRange) : StoreEffect σ (σ.post a)
  | boundary (σ : Store) (f : FieldNo) : StoreEffect σ (σ.boundary f)
  | emptied (σ : Store) : StoreEffect σ { σ with table := PlateTable.reset }
  | powerOn (σ : Store) : StoreEffect σ State.reset.store
  | save (σ : Store) (n : SceneNo) (f : FieldNo) : StoreEffect σ (σ.setScene n (σ.saved f))
  | clear (σ : Store) (n : SceneNo) : StoreEffect σ (σ.setScene n Scene.empty)
  | write (σ : Store) (v : Vector CueEntry 128) (h : ∀ i, v.get i = σ.cues.get i ∨ (v.get i).inRange = true) :
    StoreEffect σ { σ with cues := v }

theorem StoreEffect.of_eq {s t : State} (h : t.store = s.store) : StoreEffect s.store t.store := by rw [h]; exact .keep _

/-- An effect from a state with the same store. -/
theorem StoreEffect.after {s u t : State} (h : StoreEffect u.store t.store) (hu : u.store = s.store) :
    StoreEffect s.store t.store := by rw [← hu]; exact h

theorem withOperands_effect {ok : Bool} {k : State → State} {s : State} (h : ok = true → StoreEffect s.store (k s).store) :
    StoreEffect s.store (withOperands ok k s).store := by
  cases ok
  · exact .of_eq rfl
  · exact h rfl

theorem withRequest_effect (r : ReqInfo) {k : List Byte → State → State} (h : ∀ ops s, StoreEffect s.store (k ops s).store)
    (s : State) : StoreEffect s.store (withRequest r k s).store := by
  unfold withRequest
  split
  · exact .keep _
  · rename_i c ops _
    split
    · split
      · exact h ops (consume s _)
      · exact .of_eq rfl
    · exact .keep _

/-! ## Boundaries and hard aligns -/

theorem takeBoundary_effect (s : State) : StoreEffect s.store (takeBoundary s).store := by
  rw [takeBoundary_store]; exact .boundary s.store _

theorem endField_effect (s : State) : StoreEffect s.store (endField s).store := by
  unfold endField
  dsimp only
  rw [withRaster_store]
  exact takeBoundary_effect s

theorem hardAlign_effect (s : State) (c : AlignCause) (t : Time) : StoreEffect s.store (hardAlign s c t).store := by
  unfold hardAlign
  dsimp only
  rw [raise_store, withRaster_store]
  exact (takeBoundary_effect _).after rfl

theorem entrySteer_effect (s : State) (e : Int) (t : Time) : StoreEffect s.store (entrySteer s e t).store := by
  unfold entrySteer
  split
  · exact .of_eq rfl
  · split
    · exact hardAlign_effect s _ t
    · exact .of_eq rfl

theorem entryDecision_effect (s : State) (t : Time) : StoreEffect s.store (entryDecision s t).store := by
  unfold entryDecision
  split
  · split
    · exact (entrySteer_effect _ _ t).after (withRlc_store s _)
    · exact hardAlign_effect s _ t
  · exact .keep _

theorem enterFrameLock_effect (s : State) (pat : Pattern) (t : Time) : StoreEffect s.store (enterFrameLock s pat t).store :=
  (entryDecision_effect _ t).after (changeLock_store _ _)

theorem judgePair_effect (std : Standard) (pat : Pattern) (t : Time) (s : State) :
    StoreEffect s.store (judgePair std pat t s).store := by
  unfold judgePair
  dsimp only
  split
  · exact (enterFrameLock_effect _ pat t).after (withRlc_store s _)
  · exact .of_eq (by simp)

theorem confirm_effect (std : Standard) (pat : Pattern) (t : Time) (s : State) :
    StoreEffect s.store (confirm std pat t s).store := by
  unfold confirm
  dsimp only
  split
  · exact (enterFrameLock_effect _ pat t).after (withRlc_store s _)
  · exact .of_eq (by simp)

theorem fieldSync_effect (input : Input) (pat : Pattern) (t : Time) (s : State) :
    StoreEffect s.store (fieldSync input pat t s).store := by
  unfold fieldSync
  split
  · split
    · exact .keep _
    · unfold pairSync
      dsimp only
      split
      · exact .of_eq rfl
      · exact (judgePair_effect _ pat t _).after (withRlc_store s _)
    · exact .of_eq (frameSync_store pat t s)
    · unfold flywheelFieldSync
      split
      · exact confirm_effect _ pat t s
      · exact .keep _
  · exact .keep _

theorem nextLineStart_effect (s : State) : StoreEffect s.store (nextLineStart s).store := by
  unfold nextLineStart
  split
  · exact hardAlign_effect s _ _
  · rw [takeLineStart_store]
    unfold moveToLineStart
    split
    · exact .keep _
    · split
      · exact endField_effect s
      · exact .of_eq rfl

theorem execLineStart_effect (s : State) : StoreEffect s.store (nextLineStart (settleSegments (settleMark s))).store :=
  (nextLineStart_effect _).after (by simp)

theorem replaceParams_effect (q : RasterParams) (t : Time) (s : State) : StoreEffect s.store (replaceParams q t s).store := by
  unfold replaceParams
  dsimp only
  split
  · exact (hardAlign_effect _ _ t).after (withRaster_store _ _)
  · exact .of_eq rfl

theorem setRaster_effect (t : Time) (ops : List Byte) (s : State) : StoreEffect s.store (setRaster t ops s).store := by
  refine withOperands_effect fun _ => ?_
  rw [replyOkTo_store]
  exact replaceParams_effect (rasterFields ops) t s

theorem alignNow_effect (t : Time) (s : State) : StoreEffect s.store (alignNow t s).store := by
  unfold alignNow
  split
  · rw [replyOkTo_store]; exact hardAlign_effect s _ t
  · exact .of_eq rfl

theorem portControl_effect (ctl : Byte) (s : State) : StoreEffect s.store (portControl ctl s).store := by
  unfold portControl
  split
  · exact .emptied s.store
  · split <;> exact .of_eq rfl

end Sys2Proof.Machine
end

section
/-! PROOFS. Operands that pass their checks lie in the ranges of the rules, and so do the amendments that requests and cues post; with
that, what every command does to the store. -/

namespace Sys2Proof.Machine

/-! ## Operand bytes -/

theorem op8_lt (ops : List Byte) (i : Nat) : op8 ops i < 256 := (opByte ops i).isLt

theorem op16_lt (ops : List Byte) (i : Nat) : op16 ops i < 65536 := by
  have h0 := op8_lt ops i
  have h1 := op8_lt ops (i + 1)
  simp only [op16]; omega

/-- A signed byte lies between -128 and 127. -/
theorem byte_toInt_range (b : Byte) : -128 ≤ b.toInt ∧ b.toInt ≤ 127 := by
  have := b.isLt
  rw [BitVec.toInt_eq_toNat_cond]
  split <;> omega

theorem tagOk_iff (t : Byte) : tagOk t = true ↔ TagInRange t := by simp [tagOk, TagInRange]

theorem coordOk_iff (x : Int) : coordOk x = true ↔ -1024 ≤ x ∧ x ≤ 2047 := by
  rw [coordOk, Bool.and_eq_true, decide_eq_true_iff, decide_eq_true_iff]; rfl

theorem heightOk_iff (n : Nat) : heightOk n = true ↔ 1 ≤ n ∧ n ≤ 576 := by simp [heightOk]
theorem widthOk_iff (n : Nat) : widthOk n = true ↔ 1 ≤ n ∧ n ≤ 1024 := by simp [widthOk]
theorem rowRateOk_iff (x : Int) : rowRateOk x = true ↔ -16 ≤ x ∧ x ≤ 15 := by simp [rowRateOk]
theorem colRateOk_iff (x : Int) : colRateOk x = true ↔ -32 ≤ x ∧ x ≤ 31 := by simp [colRateOk]

/-- A transparent index that is present lies between 0 and 15 (09 R187). -/
theorem transOf_range {n x : Nat} (h : transOk n = true) (hx : transOf n = some x) : x ≤ 15 := by
  simp only [transOk, decide_eq_true_eq] at h
  unfold transOf at hx
  split at hx
  · cases hx
  · cases hx; omega

/-- A stop that is present is a coordinate (09 R187). -/
theorem stopOf_range {n : Nat} {y x : Int} (h : stopOk n y = true) (hx : stopOf n y = some x) : -1024 ≤ x ∧ x ≤ 2047 := by
  unfold stopOf at hx
  split at hx
  · cases hx
  · rename_i hn
    cases hx
    simpa [stopOk, hn, coordOk_iff] using h

/-! ## PLACE and AMEND -/

/-- The host fields of a PLACE that passes its check lie in range (02 R34). -/
theorem placeFields_inRange {ops : List Byte} (h : placeOk ops = true) : (placeFields ops).InRange := by
  simp only [placeOk, Bool.and_eq_true, decide_eq_true_eq, tagOk_iff, rowRateOk_iff, colRateOk_iff, coordOk_iff, heightOk_iff,
    widthOk_iff] at h
  obtain ⟨⟨⟨⟨⟨⟨⟨⟨⟨⟨⟨⟨⟨⟨⟨⟨⟨⟨⟨⟨-, htag⟩, -⟩, -⟩, -⟩, -⟩, -⟩, -⟩, -⟩, htrans⟩, hmix⟩, hfade⟩, hrow⟩, hcol⟩, htop⟩, hleft⟩, hheight⟩, hwidth⟩,
    hstopRow⟩, hstopCol⟩, -⟩ := h
  have hgroup : op8 ops 2 % 8 ≤ 7 := by omega
  have hlayer : op8 ops 2 / 16 % 4 ≤ 3 := by omega
  have hlife : op16 ops 11 ≤ 65535 := Nat.le_of_lt_succ (op16_lt ops 11)
  exact ⟨htag.1, htag.2, hgroup, hlayer, htop.1, htop.2, hleft.1, hleft.2, hheight.1, hheight.2, hwidth.1, hwidth.2,
    fun _ => transOf_range htrans, hmix, hfade, hlife, hrow.1, hrow.2, hcol.1, hcol.2, fun _ => stopOf_range hstopRow,
    fun _ => stopOf_range hstopCol⟩

/-- A selected field's value is in range when the check of AMEND passes for it (02 R35). -/
theorem amendPick_range {α : Type} {ops : List Byte} {k : Nat} {b : Bool} {v x : α} (h : (!amendHas ops k || b) = true)
    (hx : amendPick ops k v = some x) : b = true ∧ x = v := by
  unfold amendPick at hx
  split at hx
  · rename_i hk
    cases hx
    exact ⟨by simpa [hk] using h, rfl⟩
  · cases hx

theorem amendPick_eq {α : Type} {ops : List Byte} {k : Nat} {v x : α} (hx : amendPick ops k v = some x) : x = v := by
  unfold amendPick at hx
  split at hx
  · cases hx; rfl
  · cases hx

/-- The selected values of an AMEND that passes its check lie in range (02 R35). -/
theorem amendFields_inRange {ops : List Byte} (h : amendOk ops = true) : (amendFields ops).InRange := by
  unfold amendOk at h
  simp only [Bool.and_eq_true] at h
  obtain ⟨⟨⟨⟨⟨⟨⟨⟨⟨⟨⟨⟨⟨⟨⟨⟨⟨⟨⟨-, -⟩, -⟩, h0⟩, h1⟩, h2⟩, h3⟩, h4⟩, h5⟩, -⟩, h7⟩, h8⟩, h9⟩, h11⟩, h12⟩, h13⟩, h14⟩, -⟩, -⟩, -⟩ := h
  refine ⟨fun x hx => ?_, fun x hx => ?_, fun x hx => ?_, fun x hx => ?_, fun x hx => ?_, fun x hx => ?_, fun x hx => ?_,
    fun x hx => ?_, fun x hx => ?_, fun x hx => ?_, fun x hx => ?_, fun x hx => ?_, fun x hx => ?_, fun x hx => ?_⟩
  · obtain ⟨hb, rfl⟩ := amendPick_range h0 hx; exact of_decide_eq_true hb
  · obtain ⟨hb, rfl⟩ := amendPick_range h1 hx; exact of_decide_eq_true hb
  · obtain ⟨hb, rfl⟩ := amendPick_range h2 hx; exact (coordOk_iff _).mp hb
  · obtain ⟨hb, rfl⟩ := amendPick_range h3 hx; exact (coordOk_iff _).mp hb
  · obtain ⟨hb, rfl⟩ := amendPick_range h4 hx; exact (heightOk_iff _).mp hb
  · obtain ⟨hb, rfl⟩ := amendPick_range h5 hx; exact (widthOk_iff _).mp hb
  · obtain ⟨hb, hx⟩ := amendPick_range h7 hx; exact transOf_range hb hx.symm
  · obtain ⟨hb, rfl⟩ := amendPick_range h8 hx; exact of_decide_eq_true hb
  · obtain ⟨hb, rfl⟩ := amendPick_range h9 hx; exact of_decide_eq_true hb
  · rw [amendPick_eq hx]; exact Nat.le_of_lt_succ (op16_lt ops 17)
  · obtain ⟨hb, rfl⟩ := amendPick_range h11 hx; exact (rowRateOk_iff _).mp hb
  · obtain ⟨hb, rfl⟩ := amendPick_range h12 hx; exact (colRateOk_iff _).mp hb
  · obtain ⟨hb, hx⟩ := amendPick_range h13 hx; exact stopOf_range hb hx.symm
  · obtain ⟨hb, hx⟩ := amendPick_range h14 hx; exact stopOf_range hb hx.symm

/-! ## Cues -/

/-- The amendment of a cue in range is in range (04 R80). -/
theorem CueEntry.amendment_inRange {e : CueEntry} (h : e.inRange = true) {op : AmendOp} (ho : e.amendment? = some op) :
    op.InRange := by
  unfold CueEntry.inRange at h
  unfold CueEntry.amendment? at ho
  cases ha : e.action <;> simp only [ha] at h ho <;> cases ho
  case showPlate => exact (tagOk_iff _).mp h
  case close => exact (tagOk_iff _).mp h
  case drop => exact (tagOk_iff _).mp h
  case mix =>
    simp only [Bool.and_eq_true, decide_eq_true_eq] at h
    exact ⟨(tagOk_iff _).mp h.1, h.2⟩
  case groupClose => exact (show e.operand.toNat ≤ 7 from of_decide_eq_true h)
  case groupMove =>
    exact ⟨of_decide_eq_true h, (byte_toInt_range _).1, (byte_toInt_range _).2, (byte_toInt_range _).1, (byte_toInt_range _).2⟩
  -- RECALL, the kind that is left
  · exact Nat.le_of_lt_succ (Fin.ofNat 4 e.operand.toNat).isLt

/-- Reading a cue list after one entry is written. -/
theorem cues_get_set (v : Vector CueEntry 128) (k : Nat) (hk : k < 128) (e : CueEntry) (i : CueIndex) :
    (v.set k e hk).get i = if k = i.val then e else v.get i := by
  rw [Vector.get_eq_getElem, Vector.getElem_set, Vector.get_eq_getElem]

/-- Entries in range written to the cue list: every cue is an old one or in range (04 R82). -/
theorem writeEntries_get {ops : List Byte} (n i k : Nat) (v : Vector CueEntry 128) (c : CueIndex)
    (h : ∀ m, m < n → cueOk ops (k + 4 * m) = true) :
    (writeEntries ops n i k v).get c = v.get c ∨ ((writeEntries ops n i k v).get c).inRange = true := by
  induction n generalizing i k v with
  | zero => exact .inl rfl
  | succ n ih =>
    have hk : (cueEntryAt ops k).inRange = true := by
      have := h 0 (Nat.succ_pos n)
      simp only [cueOk, Bool.and_eq_true] at this
      exact this.2
    have hrest : ∀ m, m < n → cueOk ops (k + 4 + 4 * m) = true := fun m hm => by
      have := h (m + 1) (by omega)
      rwa [show k + 4 * (m + 1) = k + 4 + 4 * m by omega] at this
    unfold writeEntries
    rcases ih (i + 1) (k + 4) (v.set (i % 128) (cueEntryAt ops k) (Nat.mod_lt _ (by omega))) hrest with he | hr
    · rw [he, cues_get_set]
      split
      · exact .inr hk
      · exact .inl rfl
    · exact .inr hr

/-! ## Posting requests -/

theorem postRequest_effect {op : AmendOp} (h : op.InRange) (s : State) : StoreEffect s.store (postRequest op s).store := by
  unfold postRequest
  split
  · exact .post s.store ⟨.request, op⟩ fun _ => h
  · exact .of_eq rfl

theorem postPlace_effect (ops : List Byte) (s : State) : StoreEffect s.store (postPlace ops s).store :=
  withOperands_effect fun h => postRequest_effect (op := .place _ _) (placeFields_inRange h) s

theorem postAmend_effect (ops : List Byte) (s : State) : StoreEffect s.store (postAmend ops s).store := by
  refine withOperands_effect fun h => postRequest_effect (op := .amend _ _) ⟨?_, amendFields_inRange h⟩ s
  simp only [amendOk, Bool.and_eq_true] at h
  exact (tagOk_iff _).mp (by tauto)

/-- SHOW, CLOSE and DROP (02 R33, R34). -/
theorem postTag_effect {mk : Byte → AmendOp} (hmk : ∀ t, TagInRange t → (mk t).InRange) (ops : List Byte) (s : State) :
    StoreEffect s.store (postTag mk ops s).store :=
  withOperands_effect fun h => postRequest_effect (hmk _ ((tagOk_iff _).mp h)) s

theorem postGroupClose_effect (ops : List Byte) (s : State) : StoreEffect s.store (postGroupClose ops s).store :=
  withOperands_effect fun h => postRequest_effect (op := .groupClose _) (show op8 ops 0 ≤ 7 from of_decide_eq_true h) s

theorem postGroupMove_effect (ops : List Byte) (s : State) : StoreEffect s.store (postGroupMove ops s).store :=
  withOperands_effect fun h => postRequest_effect (op := .groupMove _ _ _)
    ⟨of_decide_eq_true h, (byte_toInt_range _).1, (byte_toInt_range _).2, (byte_toInt_range _).1, (byte_toInt_range _).2⟩ s

theorem postSetPinned_effect (ops : List Byte) (s : State) : StoreEffect s.store (postSetPinned ops s).store :=
  withOperands_effect fun h => postRequest_effect (op := .setPinned _) (show op8 ops 0 ≤ 32 from of_decide_eq_true h) s

theorem recallScene_effect (ops : List Byte) (s : State) : StoreEffect s.store (recallScene ops s).store := by
  refine withOperands_effect fun _ => ?_
  split
  · exact postRequest_effect (op := .recall _) (Nat.le_of_lt_succ (sceneOf ops).isLt) s
  · exact .of_eq rfl

/-! ## Cue executions -/

theorem executeCue_effect (s : State) : StoreEffect s.store (executeCue s).store := by
  unfold executeCue
  dsimp only
  split
  · exact .of_eq (finishCue_store s _)
  · rename_i op hop
    split
    · rw [finishCue_store]
      exact .post s.store ⟨_, op⟩ fun h => CueEntry.amendment_inRange (h s.seq.pointer) hop
    · exact .of_eq rfl

theorem resumeRun_effect (s : State) : StoreEffect s.store (resumeRun s).store :=
  (executeCue_effect _).after (withSeq_store rfl)

theorem doCue_effect (ops : List Byte) (s : State) : StoreEffect s.store (doCue ops s).store := by
  refine withOperands_effect fun h => ?_
  simp only [cueOk, Bool.and_eq_true] at h
  unfold executeEntry
  split
  · exact .of_eq rfl
  · rename_i op hop
    split
    · exact .post s.store ⟨_, op⟩ fun _ => CueEntry.amendment_inRange h.2 hop
    · exact .of_eq rfl

theorem writeCues_effect (ops : List Byte) (s : State) : StoreEffect s.store (writeCues ops s).store := by
  refine withOperands_effect fun h => ?_
  simp only [writeCuesOk, Bool.and_eq_true, List.all_eq_true, List.mem_range] at h
  unfold whenHalted
  split
  · exact .write s.store _ fun c => writeEntries_get _ _ 1 _ c h.2
  · exact .of_eq rfl

theorem saveScene_effect (ops : List Byte) (s : State) : StoreEffect s.store (saveScene ops s).store :=
  withOperands_effect fun _ => .save s.store (sceneOf ops) s.clock.counter

theorem clearScene_effect (ops : List Byte) (s : State) : StoreEffect s.store (clearScene ops s).store :=
  withOperands_effect fun _ => .clear s.store (sceneOf ops)

/-! ## Every command -/

/-- What a command does to the store is one of the effects, and every command answers a next state. -/
theorem exec_effect (i : Instr) (s : State) : ∃ t, exec i s = .next t ∧ StoreEffect s.store t.store := by
  cases i with
  | powerOnReset => exact ⟨_, execPowerOnReset_eq s, .powerOn s.store⟩
  | abort ctl => exact ⟨_, rfl, portControl_effect ctl s⟩
  | softReset ctl => exact ⟨_, rfl, portControl_effect ctl s⟩
  | setRaster t => exact ⟨_, rfl, withRequest_effect _ (setRaster_effect t) s⟩
  | alignNow t => exact ⟨_, rfl, withRequest_effect _ (fun _ => alignNow_effect t) s⟩
  | place => exact ⟨_, rfl, withRequest_effect _ postPlace_effect s⟩
  | amend => exact ⟨_, rfl, withRequest_effect _ postAmend_effect s⟩
  | showPlate => exact ⟨_, rfl, withRequest_effect _ (postTag_effect (mk := .showPlate) fun _ h => h) s⟩
  | close => exact ⟨_, rfl, withRequest_effect _ (postTag_effect (mk := .close) fun _ h => h) s⟩
  | drop => exact ⟨_, rfl, withRequest_effect _ (postTag_effect (mk := .drop) fun _ h => h) s⟩
  | groupClose => exact ⟨_, rfl, withRequest_effect _ postGroupClose_effect s⟩
  | groupMove => exact ⟨_, rfl, withRequest_effect _ postGroupMove_effect s⟩
  | setPinned => exact ⟨_, rfl, withRequest_effect _ postSetPinned_effect s⟩
  | writeCues => exact ⟨_, rfl, withRequest_effect _ writeCues_effect s⟩
  | doCue => exact ⟨_, rfl, withRequest_effect _ doCue_effect s⟩
  | saveScene => exact ⟨_, rfl, withRequest_effect _ saveScene_effect s⟩
  | recallScene => exact ⟨_, rfl, withRequest_effect _ recallScene_effect s⟩
  | clearScene => exact ⟨_, rfl, withRequest_effect _ clearScene_effect s⟩
  | fieldSync input pat t => exact ⟨_, rfl, fieldSync_effect input pat t s⟩
  | lineStart => exact ⟨_, rfl, execLineStart_effect s⟩
  | cueExecution => exact ⟨_, rfl, by split; exacts [executeCue_effect s, .keep _]⟩
  | stallResumption => exact ⟨_, rfl, by split; exacts [resumeRun_effect s, .keep _]⟩
  | fieldBoundary => exact ⟨_, rfl, by split; exacts [endField_effect s, .keep _]⟩
  | slewTimeout => exact ⟨_, rfl, by split; exacts [hardAlign_effect s _ _, .keep _]⟩
  | selectSource | setProfile | setInput | setStandard | readTiming | setFieldCount | setMark | setInterval | setCounter
  | readCounters | query | probe | list | setLevels | setKeying | readCues | setSequencer | start | halt | step | readScenes
  | sync | setEnables | readAttention => exact ⟨_, rfl, .of_eq (withRequest_store _ (fun ops s => by simp) s)⟩
  | requestByteWrite | replyByteRead | attentionClear | unknownRequest | unframeableRequest | listSlotExamine | listResume
  | listEnd | fieldReport | cueInEdge | lineSync | flywheelPredictedLine | holdoverExpiry => exact ⟨_, rfl, .of_eq (by simp)⟩
  | delayExpiry | intervalExpiry | countDone | haltOnCount | segmentEnd | holdDecaySegment | lineWindowClose =>
    exact ⟨_, rfl, .of_eq (by split <;> simp)⟩

/-- What a step does to the store is one of the effects. -/
theorem step_effect {s t : State} (h : step s = .next t) : StoreEffect s.store t.store := by
  unfold step at h
  split at h
  · cases h; exact .keep _
  · rename_i c rest _
    obtain ⟨u, hu, he⟩ := exec_effect c (s.withPending rest)
    rw [hu] at h
    cases h
    exact he

end Sys2Proof.Machine
end

section
/-! PROOFS. What each amendment and each part of the advance makes of the table, said once: the inversions that both the table laws
and the ranges use (01 R19 to R21; 02 R41 to R59; 05 R112 to R116). -/

namespace Sys2Proof.Machine

/-! ## One slot written -/

/-- v is w with slot i holding q, the pinned boundary kept, and the rotation index kept or one step down (01 R17). -/
def Rewritten (w v : TableWork) (i : Slot) (q : Option Plate) : Prop :=
  v.slots = putSlot w.slots i q ∧ v.pinned = w.pinned ∧
    (v.rotation = w.rotation ∨ v.rotation = rotationStep w.pinned w.rotation)

theorem rewritten_write (w : TableWork) (i : Slot) (q : Option Plate) (ds : List Detail) : Rewritten w (w.write i q ds) i q :=
  ⟨rfl, rfl, .inl rfl⟩

theorem rewritten_closeFree (w : TableWork) (i : Slot) (p : Plate) : Rewritten w (w.closeFree i p) i none :=
  ⟨rfl, rfl, .inl rfl⟩

theorem rewritten_take (w : TableWork) (i : Slot) (r : AdvanceResult) : Rewritten w (w.take i r) i r.plate :=
  ⟨rfl, rfl, .inl rfl⟩

/-- The plate that a CLOSE makes of a SHOWN plate with a fade step (02 R45). -/
def closingPlate (p : Plate) : Plate := { p with state := .closing, fadePhase := 0, new := true }

/-! ## Amendments carried out -/

/-- PLACE carried out: the record's tag is not live, it meets no live plate, and one slot is written (01 R19 to R21). -/
theorem applyPlace_ok {f : FieldNo} {sc : Scenes} {w v : TableWork} {slot : Option Slot} {h : HostFields}
    (e : applyOp f sc w (.place slot h) = .ok v) :
    ¬ TagLive w.slots h.tag ∧ ¬ MeetsLive w.slots (fun _ => false = true) h ∧ ∃ i, Rewritten w v i (some (createPlate f h)) := by
  cases slot with
  | some i =>
    simp only [applyOp, applyPlaceAt] at e
    split at e
    · cases e
    · split at e
      · cases e
      · split at e
        · cases e
        · rename_i htag _ hhit
          cases e
          exact ⟨fun hl => htag ((findTag_isSome _ _).mpr hl), fun hm => hhit ((firstHit_isSome _ _ _).mpr hm), i,
            rewritten_write _ _ _ _⟩
  | none =>
    simp only [applyOp, applyPlaceAny] at e
    split at e
    · cases e
    · split at e
      · cases e
      · split at e
        · cases e
        · rename_i htag _ hhit
          cases e
          refine ⟨fun hl => htag ((findTag_isSome _ _).mpr hl), fun hm => hhit ((firstHit_isSome _ _ _).mpr hm), ?_⟩
          unfold placeAny
          split
          · exact ⟨_, rewritten_write _ _ _ _⟩
          · exact ⟨w.rotation, rfl, rfl, .inr rfl⟩

/-- An amendment by tag carried out acts on a live plate. -/
theorem onTag_ok {w v : TableWork} {tag : Byte} {k : Slot → Plate → Except FaultReason TableWork} (e : onTag w tag k = .ok v) :
    ∃ i p, slotAt w.slots i = some p ∧ k i p = .ok v := by
  unfold onTag at e
  split at e
  · cases e
  · rename_i i _
    split at e
    · cases e
    · rename_i p hp; exact ⟨i, p, hp, e⟩

/-- AMEND carried out: the plate is not CLOSING, and its new record meets no other live plate (02 R42). -/
theorem applyAmend_ok {w v : TableWork} {tag : Byte} {sel : FieldSelect} (e : applyAmend w tag sel = .ok v) :
    ∃ i p, slotAt w.slots i = some p ∧ p.state ≠ .closing ∧
      ¬ MeetsLive w.slots (fun j => (j == i) = true) (amendPlate sel p).toHostFields ∧
      Rewritten w v i (some (amendPlate sel p)) := by
  obtain ⟨i, p, hp, e⟩ := onTag_ok e
  split at e
  · cases e
  · split at e
    · cases e
    · rename_i hstate hhit
      cases e
      exact ⟨i, p, hp, hstate, fun hm => hhit ((firstHit_isSome _ _ _).mpr hm), rewritten_write _ _ _ _⟩

/-- SHOW carried out: the plate is ARMED (02 R44). -/
theorem applyShow_ok {w v : TableWork} {tag : Byte} (e : applyShow w tag = .ok v) :
    ∃ i p, slotAt w.slots i = some p ∧ Rewritten w v i (some { becomeShown p with new := true }) := by
  obtain ⟨i, p, hp, e⟩ := onTag_ok e
  split at e
  · cases e; exact ⟨i, p, hp, rewritten_write _ _ _ _⟩
  · cases e

/-- MIX carried out: the plate is not CLOSING (02 R47). -/
theorem applyMix_ok {w v : TableWork} {tag : Byte} {level : Nat} (e : applyMix w tag level = .ok v) :
    ∃ i p, slotAt w.slots i = some p ∧ Rewritten w v i (some { p with mixTarget := level }) := by
  obtain ⟨i, p, hp, e⟩ := onTag_ok e
  split at e
  · cases e
  · cases e; exact ⟨i, p, hp, rewritten_write _ _ _ _⟩

/-- DROP carried out frees a slot (02 R46). -/
theorem applyDrop_ok {w v : TableWork} {tag : Byte} (e : applyDrop w tag = .ok v) : ∃ i, Rewritten w v i none := by
  obtain ⟨i, p, _, e⟩ := onTag_ok e
  cases e
  exact ⟨i, rewritten_closeFree _ _ _⟩

/-- The effect of a CLOSE on a plate: freed, turned CLOSING when it has a fade step, or none (02 R45). -/
theorem closeSlot_cases (w : TableWork) (i : Slot) (p : Plate) :
    closeSlot w i p = w ∨ Rewritten w (closeSlot w i p) i none ∨
      (p.fadeStep ≠ 0 ∧ Rewritten w (closeSlot w i p) i (some (closingPlate p))) := by
  unfold closeSlot
  split
  · exact .inr (.inl (rewritten_closeFree _ _ _))
  · split
    · exact .inr (.inl (rewritten_closeFree _ _ _))
    · rename_i hfade; exact .inr (.inr ⟨hfade, rewritten_write _ _ _ _⟩)
  · exact .inl rfl

/-- CLOSE carried out (02 R45). -/
theorem applyClose_ok {w v : TableWork} {tag : Byte} (e : applyClose w tag = .ok v) :
    ∃ i p, slotAt w.slots i = some p ∧ v = closeSlot w i p := by
  obtain ⟨i, p, hp, e⟩ := onTag_ok e
  cases e
  exact ⟨i, p, hp, rfl⟩

/-- A GROUP CLOSE at slot i leaves the work, or closes the plate there (02 R48). -/
theorem groupCloseSlot_cases (g : Nat) (w : TableWork) (i : Slot) :
    groupCloseSlot g w i = w ∨ ∃ p, slotAt w.slots i = some p ∧ groupCloseSlot g w i = closeSlot w i p := by
  unfold groupCloseSlot
  split
  · exact .inl rfl
  · rename_i p hp
    split
    · exact .inr ⟨p, hp, rfl⟩
    · exact .inl rfl

/-- What a slot holds after every member is displaced (02 R49). -/
theorem slotAt_moveMembers (ts : Slots) (pinned g : Nat) (r c : Int) (i : Slot) :
    slotAt (moveMembers ts pinned g r c) i =
      if isMember ts pinned g i then
        (slotAt ts i).map fun p => { p with toHostFields := displace r c p.toHostFields }
      else slotAt ts i :=
  slotAt_mapSlots _ _ _

/-- GROUP MOVE carried out: every member stays in the coordinate range and meets no plate that is no member (02 R49). -/
theorem applyGroupMove_ok {w v : TableWork} {g : Nat} {r c : Int} (e : applyGroupMove w g r c = .ok v) :
    (∀ i p, isMember w.slots w.pinned g i = true → slotAt w.slots i = some p →
      (coordOk (p.top + r) = true ∧ coordOk (p.left + c) = true) ∧
      ¬ MeetsLive w.slots (fun j => isMember w.slots w.pinned g j = true) (displace r c p.toHostFields)) ∧
    v = { w with slots := moveMembers w.slots w.pinned g r c } := by
  unfold applyGroupMove at e
  split at e
  · cases e
  · split at e
    · cases e
    · rename_i hrange hover
      cases e
      refine ⟨fun i p hm hp => ⟨?_, fun hl => hover ?_⟩, rfl⟩
      · by_contra hc
        refine hrange (List.any_eq_true.mpr ⟨i, mem_allSlots i, ?_⟩)
        simpa [moveOutOfRange, hm, hp, imp_iff_not_or] using hc
      · exact List.any_eq_true.mpr ⟨i, mem_allSlots i, by simpa [moveOverlaps, hm, hp] using (firstHit_isSome _ _ _).mpr hl⟩

/-- What a slot holds after an installation (05 R114, R115). -/
theorem slotAt_installScene (ts : Slots) (pinned : Nat) (images : List Image) (i : Slot) :
    slotAt (installScene ts pinned images) i =
      if i.val < pinned then slotAt ts i else (images[i.val - pinned]?).map installImage :=
  slotAt_mapSlots _ _ _

@[simp] theorem installImage_host (m : Image) : (installImage m).toHostFields = m.toHostFields := by
  unfold installImage
  split <;> rfl

/-- RECALL carried out: no image conflicts with a pinned live plate (05 R112 to R115). -/
theorem applyRecall_ok {sc : Scenes} {w v : TableWork} {n : SceneNo} (e : applyRecall sc w n = .ok v) :
    (∀ m ∈ (sc.get n).images, ∀ i p, i.val < w.pinned → slotAt w.slots i = some p →
      p.tag ≠ m.tag ∧ p.toHostFields.meets m.toHostFields = false) ∧
    v.slots = installScene w.slots w.pinned (sc.get n).images ∧ v.pinned = w.pinned ∧ v.rotation = w.rotation := by
  unfold applyRecall at e
  dsimp only at e
  split at e
  · cases e
  · split at e
    · cases e
    · split at e
      · cases e
      · rename_i hconf
        cases e
        refine ⟨fun m hm i p hi hp => ?_, rfl, rfl, rfl⟩
        have hno : imageConflicts w.slots w.pinned m = false := by
          simp only [List.any_eq_true, not_exists, not_and, Bool.not_eq_true] at hconf
          exact hconf m hm
        simp only [imageConflicts, List.any_eq_false, Bool.and_eq_true, decide_eq_true_eq, not_and] at hno
        have := hno i (mem_allSlots i) hi
        simpa [hp] using this

/-! ## The advance -/

/-- The place and the name of a record: its tag, layer and rectangle. -/
def SamePlace (g h : HostFields) : Prop :=
  g.tag = h.tag ∧ g.layer = h.layer ∧ g.top = h.top ∧ g.left = h.left ∧ g.height = h.height ∧ g.width = h.width

theorem SamePlace.refl (h : HostFields) : SamePlace h h := ⟨rfl, rfl, rfl, rfl, rfl, rfl⟩

/-- Records of the same place meet the same records. -/
theorem SamePlace.meets_eq {g h : HostFields} (e : SamePlace g h) (k : HostFields) : g.meets k = h.meets k := by
  obtain ⟨_, hl, ht, hx, hh, hw⟩ := e
  exact HostFields.meets_congr hl ht hx hh hw rfl rfl rfl rfl rfl

theorem SamePlace.trans {g h k : HostFields} (e : SamePlace g h) (e' : SamePlace h k) : SamePlace g k := by
  obtain ⟨a1, a2, a3, a4, a5, a6⟩ := e
  obtain ⟨b1, b2, b3, b4, b5, b6⟩ := e'
  exact ⟨a1.trans b1, a2.trans b2, a3.trans b3, a4.trans b4, a5.trans b5, a6.trans b6⟩

/-- Plate q has the tag of plate p of slot i, and stands where p stood or where it meets no other live plate. -/
def StaysClear (ts : Slots) (i : Slot) (p q : Plate) : Prop :=
  SamePlace q.toHostFields p.toHostFields ∨ (q.tag = p.tag ∧ ¬ MeetsLive ts (fun j => (j == i) = true) q.toHostFields)

theorem StaysClear.of_place {ts : Slots} {i : Slot} {p p' q : Plate} (h : StaysClear ts i p' q)
    (e : SamePlace p'.toHostFields p.toHostFields) : StaysClear ts i p q := by
  rcases h with h | ⟨ht, hm⟩
  · exact .inl (h.trans e)
  · exact .inr ⟨ht.trans e.1, hm⟩

theorem motionStep_staysClear {ts : Slots} {i : Slot} {p q : Plate} (h : (motionStep ts i p).plate = some q) :
    StaysClear ts i p q := by
  unfold motionStep at h
  split at h
  · cases h; exact .inl (.refl _)
  · dsimp only at h
    split at h
    · cases h; exact .inl (.refl _)
    · rename_i hclear
      rw [firstHit_eq_none] at hclear
      right
      unfold moveStep closeAtStopStep at h
      dsimp only at h
      split at h
      · rename_i m hm
        cases h
        split at hm
        · split at hm
          · cases hm
          · cases hm
            exact ⟨rfl, hclear⟩
        · cases hm
          exact ⟨rfl, hclear⟩
      · cases h

theorem lifetimeStep_place {p q : Plate} (h : lifetimeStep p = some q) : SamePlace q.toHostFields p.toHostFields := by
  unfold lifetimeStep at h
  split at h
  · cases h; exact .refl _
  · split at h
    · cases h; exact .refl _
    · split at h <;> cases h
      exact .refl _

theorem shownFade_host (p : Plate) : (shownFade p).toHostFields = p.toHostFields := by
  unfold shownFade
  split
  · rfl
  · split
    · rfl
    · split <;> rfl

theorem closingFade_host {p q : Plate} (h : closingFade p = some q) : q.toHostFields = p.toHostFields := by
  unfold closingFade at h
  split at h
  · cases h
  · split at h
    · cases h; rfl
    · split at h <;> cases h
      rfl

theorem advanceClosing_staysClear {ts : Slots} {i : Slot} {p q : Plate} (h : (advanceClosing ts i p).plate = some q) :
    StaysClear ts i p q := by
  unfold advanceClosing at h
  split at h
  · cases h
  · rename_i p' hp'
    exact (motionStep_staysClear h).of_place (by rw [closingFade_host hp']; exact .refl _)

theorem advanceShown_staysClear {ts : Slots} {i : Slot} {p q : Plate} (h : (advanceShown ts i p).plate = some q) :
    StaysClear ts i p q := by
  unfold advanceShown at h
  split at h
  · cases h
  · rename_i p' hp'
    have hplace := lifetimeStep_place hp'
    split at h
    · exact (advanceClosing_staysClear h).of_place hplace
    · exact (motionStep_staysClear h).of_place (by rw [shownFade_host]; exact hplace)

/-- The start step leaves an ARMED plate as it is, or shows it (02 R53). -/
theorem advanceArmed_cases (f : FieldNo) (p : Plate) :
    (advanceArmed f p).plate = some p ∨ (advanceArmed f p).plate = some (becomeShown p) := by
  unfold advanceArmed
  split
  · split
    · exact .inr rfl
    · exact .inl rfl
  · exact .inl rfl
  · exact .inl rfl

/-- The advance of a plate keeps its tag, and its place unless the new one is clear (02 R52). -/
theorem advancePlate_staysClear {f : FieldNo} {ts : Slots} {i : Slot} {p q : Plate}
    (h : (advancePlate f ts i p).plate = some q) : StaysClear ts i p q := by
  unfold advancePlate at h
  split at h
  · rcases advanceArmed_cases f p with e | e <;> rw [e] at h <;> cases h
    · exact .inl (.refl _)
    · exact .inl (.refl _)
  · exact advanceShown_staysClear h
  · exact advanceClosing_staysClear h

/-- The advance of a slot leaves the work, or places the result of its plate's steps (02 R52). -/
theorem advanceSlot_cases (f : FieldNo) (w : TableWork) (i : Slot) :
    advanceSlot f w i = w ∨
      ∃ p, slotAt w.slots i = some p ∧ Rewritten w (advanceSlot f w i) i (advancePlate f w.slots i p).plate := by
  unfold advanceSlot
  split
  · exact .inl rfl
  · rename_i p hp
    split
    · exact .inl rfl
    · exact .inr ⟨p, hp, rewritten_take _ _ _⟩

/-! ## Images saved -/

/-- The image that a SAVE SCENE takes of a plate in slot i, if it takes one (05 R106, R107). -/
def savedImage (pinned : Nat) (i : Slot) (p : Plate) : Option Image :=
  if i.val < pinned then none
  else
    match p.state with
    | .armed => some { toHostFields := p.toHostFields, shown := false }
    | .shown => some { toHostFields := p.toHostFields, shown := true }
    | .closing => none

theorem savedImages_eq (ts : Slots) (pinned : Nat) :
    savedImages ts pinned = allSlots.filterMap fun i => (slotAt ts i).bind (savedImage pinned i) := by
  unfold savedImages
  congr 1
  funext i
  cases slotAt ts i <;> rfl

/-- An image has the host fields of its plate (05 R106). -/
theorem savedImage_host {pinned : Nat} {i : Slot} {p : Plate} {m : Image} (h : savedImage pinned i p = some m) :
    m.toHostFields = p.toHostFields := by
  unfold savedImage at h
  split at h
  · cases h
  · split at h <;> cases h <;> rfl

theorem mem_savedImages {ts : Slots} {pinned : Nat} {m : Image} (h : m ∈ savedImages ts pinned) :
    ∃ i p, slotAt ts i = some p ∧ m.toHostFields = p.toHostFields := by
  rw [savedImages_eq] at h
  obtain ⟨i, _, hi⟩ := List.mem_filterMap.mp h
  obtain ⟨p, hp, hm⟩ := Option.bind_eq_some_iff.mp hi
  exact ⟨i, p, hp, savedImage_host hm⟩

/-- A scene holds at most one image of each slot. -/
theorem savedImages_length (ts : Slots) (pinned : Nat) : (savedImages ts pinned).length ≤ 32 := by
  unfold savedImages
  exact List.length_filterMap_le _ _

/-! ## A whole boundary -/

/-- A property of the work that every amendment carried out keeps, every slot's advance keeps, and that reads neither notices nor counts
stands after the queue and the advance (02 R38). -/
theorem boundary_keeps {I : TableWork → Prop} {f : FieldNo} {sc : Scenes} {q : List Amendment} {w : TableWork}
    (hcongr : ∀ u v : TableWork, I u → v.slots = u.slots → v.pinned = u.pinned → v.rotation = u.rotation → I v)
    (hop : ∀ a ∈ q, ∀ u v, I u → applyOp f sc u a.op = .ok v → I v) (hslot : ∀ u i, I u → I (advanceSlot f u i)) (hw : I w) :
    I (advanceAll f (applyQueue f sc q w)) := by
  have hamend : ∀ u, I u → ∀ a ∈ q, I (applyAmendment f sc u a) := by
    intro u hu a ha
    cases e : applyOp f sc u a.op with
    | ok v => rw [applyAmendment_ok e]; exact hcongr v _ (hop a ha u v hu e) rfl rfl rfl
    | error r => rw [applyAmendment_error e]; exact hcongr u _ hu rfl rfl rfl
  have hqueue : I (applyQueue f sc q w) := List.foldlRecOn q (applyAmendment f sc) hw hamend
  unfold advanceAll
  exact List.foldlRecOn allSlots (advanceSlot f) hqueue fun u hu i _ => hslot u i hu

@[simp] theorem slotAt_clearNew (ts : Slots) (i : Slot) :
    slotAt (clearNew ts) i = (slotAt ts i).map fun p => { p with new := false } := slotAt_mapSlots _ _ _

/-- The four parts of a boundary (02 R38): the table is what the queue and the advance leave, with every new flag clear, and the rotation
index kept or one step down. -/
theorem tableBoundary_table (f : FieldNo) (sc : Scenes) (t : PlateTable) :
    ∃ w, w = advanceAll f (applyQueue f sc t.queue (startWork t)) ∧
      (tableBoundary f sc t).table.slots = clearNew w.slots ∧ (tableBoundary f sc t).table.pinned = w.pinned ∧
      ((tableBoundary f sc t).table.rotation = w.rotation ∨
        (tableBoundary f sc t).table.rotation = rotationStep w.pinned w.rotation) ∧
      (tableBoundary f sc t).table.queue = [] := by
  unfold tableBoundary
  generalize advanceAll f (applyQueue f sc t.queue (startWork t)) = w
  refine ⟨w, rfl, rfl, rfl, ?_, rfl⟩
  unfold TableWork.table
  dsimp only
  split
  · exact .inl rfl
  · exact .inr rfl

end Sys2Proof.Machine
end

section
/-! PROOFS. Every step keeps the laws of the table and of the scenes (01 R9, R12; 02 R40; 05 R105). -/

namespace Sys2Proof.Machine

/-! ## One slot under the laws -/

/-- Plate p can stand in slot i: no live plate of another slot carries its tag or shares a position with it on its layer. -/
def Fits (ts : Slots) (i : Slot) (p : Plate) : Prop :=
  ∀ j q, j ≠ i → slotAt ts j = some q → p.tag ≠ q.tag ∧ p.toHostFields.meets q.toHostFields = false

theorem TableLaws.fits {ts : Slots} (h : TableLaws ts) {i : Slot} {p : Plate} (hp : slotAt ts i = some p) : Fits ts i p :=
  fun j q hj hq => h i j p q hj.symm hp hq

theorem Fits.of_place {ts : Slots} {i : Slot} {p q : Plate} (h : Fits ts i p) (e : SamePlace q.toHostFields p.toHostFields) :
    Fits ts i q := fun j r hj hr => by
  obtain ⟨ht, hm⟩ := h j r hj hr
  exact ⟨e.1 ▸ ht, (e.meets_eq _).trans hm⟩

/-- A record that meets no live plate of the slots outside skip meets none of them in particular. -/
theorem meets_false_of_clear {ts : Slots} {skip : Slot → Prop} {h : HostFields} (hm : ¬ MeetsLive ts skip h) {j : Slot} {q : Plate}
    (hj : ¬ skip j) (hq : slotAt ts j = some q) : h.meets q.toHostFields = false := by
  rw [← Bool.not_eq_true, HostFields.meets_comm]
  exact fun e => hm ⟨j, q, hj, hq, e⟩

/-- A plate that stays clear fits where the old one stood. -/
theorem StaysClear.fits {ts : Slots} {i : Slot} {p q : Plate} (h : StaysClear ts i p q) (hl : TableLaws ts)
    (hp : slotAt ts i = some p) : Fits ts i q := by
  rcases h with e | ⟨ht, hm⟩
  · exact (hl.fits hp).of_place e
  · intro j r hj hr
    exact ⟨ht ▸ (hl.fits hp j r hj hr).1, meets_false_of_clear hm (by simpa using hj) hr⟩

/-- Writing one slot with a plate that fits, or with none, keeps the laws. -/
theorem Rewritten.laws {w v : TableWork} {i : Slot} {q : Option Plate} (e : Rewritten w v i q) (h : TableLaws w.slots)
    (hq : ∀ p, q = some p → Fits w.slots i p) : TableLaws v.slots := by
  rw [e.1]
  intro j k p r hjk hp hr
  rw [slotAt_putSlot] at hp hr
  split at hp
  · rename_i hj
    subst hj
    rw [if_neg (Ne.symm hjk)] at hr
    exact hq p hp k r (Ne.symm hjk) hr
  · split at hr
    · rename_i hk
      subst hk
      obtain ⟨ht, hm⟩ := hq r hr j p hjk hp
      exact ⟨ht.symm, by rw [HostFields.meets_comm]; exact hm⟩
    · exact h j k p r hjk hp hr

/-- Freeing a slot keeps the laws. -/
theorem Rewritten.laws_free {w v : TableWork} {i : Slot} (e : Rewritten w v i none) (h : TableLaws w.slots) : TableLaws v.slots :=
  e.laws h fun _ he => nomatch he

/-- Writing a plate of the same place keeps the laws. -/
theorem Rewritten.laws_place {w v : TableWork} {i : Slot} {p q : Plate} (e : Rewritten w v i (some q)) (h : TableLaws w.slots)
    (hp : slotAt w.slots i = some p) (hs : SamePlace q.toHostFields p.toHostFields) : TableLaws v.slots :=
  e.laws h fun _ he => Option.some.inj he ▸ (h.fits hp).of_place hs

/-- The laws need only be checked for slots in ascending order. -/
theorem tableLaws_of_lt {ts : Slots}
    (h : ∀ i j p q, i < j → slotAt ts i = some p → slotAt ts j = some q →
      p.tag ≠ q.tag ∧ p.toHostFields.meets q.toHostFields = false) : TableLaws ts := by
  intro i j p q hij hp hq
  rcases lt_or_gt_of_ne hij with hlt | hgt
  · exact h i j p q hlt hp hq
  · obtain ⟨ht, hm⟩ := h j i q p hgt hq hp
    exact ⟨ht.symm, by rw [HostFields.meets_comm]; exact hm⟩

/-! ## Amendments -/

theorem closeSlot_laws {w : TableWork} {i : Slot} {p : Plate} (h : TableLaws w.slots) (hp : slotAt w.slots i = some p) :
    TableLaws (closeSlot w i p).slots := by
  rcases closeSlot_cases w i p with e | e | ⟨_, e⟩
  · rw [e]; exact h
  · exact e.laws_free h
  · exact e.laws_place h hp (.refl _)

theorem applyGroupClose_laws {w : TableWork} (g : Nat) (h : TableLaws w.slots) : TableLaws (applyGroupClose w g).slots := by
  refine List.foldlRecOn (motive := fun u : TableWork => TableLaws u.slots) allSlots (groupCloseSlot g) h fun u hu i _ => ?_
  rcases groupCloseSlot_cases g u i with e | ⟨p, hp, e⟩
  · rw [e]; exact hu
  · rw [e]; exact closeSlot_laws hu hp

/-- Displacing two records by one displacement does not change whether they meet. -/
theorem displace_meets (r c : Int) (g h : HostFields) : (displace r c g).meets (displace r c h) = g.meets h := by
  have hrange : ∀ (d t u : Int) (n m : Nat), rangesMeet (t + d) n (u + d) m = rangesMeet t n u m := by
    intro d t u n m
    rw [Bool.eq_iff_iff]
    simp only [rangesMeet, Bool.and_eq_true, decide_eq_true_eq]
    omega
  simp only [HostFields.meets, displace, hrange]

theorem applyGroupMove_laws {w v : TableWork} {g : Nat} {r c : Int} (h : TableLaws w.slots)
    (e : applyGroupMove w g r c = .ok v) : TableLaws v.slots := by
  obtain ⟨hclear, rfl⟩ := applyGroupMove_ok e
  have hapart : ∀ i j p q, isMember w.slots w.pinned g i = true → isMember w.slots w.pinned g j ≠ true →
      slotAt w.slots i = some p → slotAt w.slots j = some q → (displace r c p.toHostFields).meets q.toHostFields = false :=
    fun i j p q hi hj hp hq => meets_false_of_clear (hclear i p hi hp).2 hj hq
  intro i j p q hij hp hq
  rw [slotAt_moveMembers] at hp hq
  split at hp <;> split at hq
  case isTrue.isTrue =>
    obtain ⟨p', hp', rfl⟩ := Option.map_eq_some_iff.mp hp
    obtain ⟨q', hq', rfl⟩ := Option.map_eq_some_iff.mp hq
    obtain ⟨ht, hm⟩ := h i j p' q' hij hp' hq'
    exact ⟨ht, (displace_meets r c _ _).trans hm⟩
  case isTrue.isFalse hi hj =>
    obtain ⟨p', hp', rfl⟩ := Option.map_eq_some_iff.mp hp
    exact ⟨(h i j p' q hij hp' hq).1, hapart i j p' q hi hj hp' hq⟩
  case isFalse.isTrue hi hj =>
    obtain ⟨q', hq', rfl⟩ := Option.map_eq_some_iff.mp hq
    exact ⟨(h i j p q' hij hp hq').1, by rw [HostFields.meets_comm]; exact hapart j i q' p hj hi hq' hp⟩
  case isFalse.isFalse => exact h i j p q hij hp hq

theorem applyRecall_laws {sc : Scenes} {w v : TableWork} {n : SceneNo} (h : TableLaws w.slots) (hs : SceneLaws (sc.get n))
    (e : applyRecall sc w n = .ok v) : TableLaws v.slots := by
  obtain ⟨hconf, hslots, -, -⟩ := applyRecall_ok e
  obtain ⟨-, hpair, -⟩ := hs
  rw [hslots]
  refine tableLaws_of_lt fun i j p q hij hp hq => ?_
  rw [slotAt_installScene] at hp hq
  by_cases hj : j.val < w.pinned
  · rw [if_pos (lt_trans (Fin.lt_def.mp hij) hj)] at hp
    rw [if_pos hj] at hq
    exact h i j p q hij.ne hp hq
  · rw [if_neg hj] at hq
    obtain ⟨m, hm, rfl⟩ := Option.map_eq_some_iff.mp hq
    rw [installImage_host]
    by_cases hi : i.val < w.pinned
    · rw [if_pos hi] at hp
      exact hconf m (List.mem_of_getElem? hm) i p hi hp
    · rw [if_neg hi] at hp
      obtain ⟨m', hm', rfl⟩ := Option.map_eq_some_iff.mp hp
      rw [installImage_host]
      obtain ⟨hk, rfl⟩ := List.getElem?_eq_some_iff.mp hm'
      obtain ⟨hl, rfl⟩ := List.getElem?_eq_some_iff.mp hm
      exact List.pairwise_iff_getElem.mp hpair _ _ hk hl (by have : i.val < j.val := hij; omega)

/-- An amendment carried out keeps the laws of the table. -/
theorem applyOp_laws {f : FieldNo} {sc : Scenes} {w v : TableWork} {op : AmendOp} (hs : ∀ n, SceneLaws (sc.get n))
    (h : TableLaws w.slots) (e : applyOp f sc w op = .ok v) : TableLaws v.slots := by
  cases op with
  | place slot g =>
    obtain ⟨htag, hclear, i, hw⟩ := applyPlace_ok e
    have hhost : (createPlate f g).toHostFields = g := by unfold createPlate; split <;> rfl
    refine hw.laws h fun p hp j q hj hq => ?_
    cases hp
    rw [hhost]
    exact ⟨fun ht => htag ⟨j, q, hq, ht.symm⟩, meets_false_of_clear hclear (by simp) hq⟩
  | amend tag sel =>
    obtain ⟨i, p, hp, -, hclear, hw⟩ := applyAmend_ok e
    refine hw.laws h fun q hq => ?_
    cases hq
    have hstays : StaysClear w.slots i p (amendPlate sel p) := .inr ⟨rfl, hclear⟩
    exact hstays.fits h hp
  | showPlate tag => obtain ⟨i, p, hp, hw⟩ := applyShow_ok e; exact hw.laws_place h hp (.refl _)
  | close tag => obtain ⟨i, p, hp, rfl⟩ := applyClose_ok e; exact closeSlot_laws h hp
  | drop tag => obtain ⟨i, hw⟩ := applyDrop_ok e; exact hw.laws_free h
  | mix tag level => obtain ⟨i, p, hp, hw⟩ := applyMix_ok e; exact hw.laws_place h hp (.refl _)
  | groupClose g => rw [← Except.ok.inj e]; exact applyGroupClose_laws g h
  | groupMove g r c => exact applyGroupMove_laws h e
  | setPinned p => cases e; exact h
  -- RECALL, the kind that is left
  | _ => exact applyRecall_laws h (hs _) e

/-! ## The boundary -/

theorem advanceSlot_laws {f : FieldNo} {w : TableWork} (i : Slot) (h : TableLaws w.slots) :
    TableLaws (advanceSlot f w i).slots := by
  rcases advanceSlot_cases f w i with e | ⟨p, hp, e⟩
  · rw [e]; exact h
  · exact e.laws h fun q hq => (advancePlate_staysClear hq).fits h hp

theorem clearNew_laws {ts : Slots} (h : TableLaws ts) : TableLaws (clearNew ts) := by
  intro i j p q hij hp hq
  rw [slotAt_clearNew] at hp hq
  obtain ⟨p', hp', rfl⟩ := Option.map_eq_some_iff.mp hp
  obtain ⟨q', hq', rfl⟩ := Option.map_eq_some_iff.mp hq
  exact h i j p' q' hij hp' hq'

/-- A boundary keeps the laws of the table and leaves every new flag clear (02 R38, R40). -/
theorem tableBoundary_laws {f : FieldNo} {sc : Scenes} {t : PlateTable} (hs : ∀ n, SceneLaws (sc.get n)) (h : TableLaws t.slots) :
    TableLaws (tableBoundary f sc t).table.slots ∧
      ∀ i p, slotAt (tableBoundary f sc t).table.slots i = some p → p.new = false := by
  obtain ⟨w, hw, hslots, -⟩ := tableBoundary_table f sc t
  have hlaws : TableLaws w.slots := by
    rw [hw]
    exact boundary_keeps (I := fun w => TableLaws w.slots) (fun u v hu e _ _ => by rw [e]; exact hu)
      (fun a _ u v hu e => applyOp_laws hs hu e) (fun u i hu => advanceSlot_laws i hu) h
  rw [hslots]
  refine ⟨clearNew_laws hlaws, fun i p hp => ?_⟩
  rw [slotAt_clearNew] at hp
  obtain ⟨q, _, rfl⟩ := Option.map_eq_some_iff.mp hp
  rfl

/-! ## Scenes -/

theorem savedImages_pairwise {ts : Slots} {pinned : Nat} (h : TableLaws ts) :
    (savedImages ts pinned).Pairwise fun m n => m.tag ≠ n.tag ∧ m.toHostFields.meets n.toHostFields = false := by
  rw [savedImages_eq]
  refine List.pairwise_filterMap.mpr ((List.pairwise_lt_finRange 32).imp fun {i j} hij m hm n hn => ?_)
  obtain ⟨p, hp, hm⟩ := Option.bind_eq_some_iff.mp hm
  obtain ⟨q, hq, hn⟩ := Option.bind_eq_some_iff.mp hn
  rw [savedImage_host hm, savedImage_host hn]
  exact h i j p q hij.ne hp hq

theorem sceneLaws_empty : SceneLaws Scene.empty := ⟨Nat.zero_le _, .nil, fun _ => ⟨rfl, rfl⟩⟩

/-- The scene that a SAVE SCENE makes obeys the laws of a scene (05 R105, R107). -/
theorem Store.saved_laws {σ : Store} (f : FieldNo) (h : TableLaws σ.table.slots) : SceneLaws (σ.saved f) :=
  ⟨savedImages_length _ _, savedImages_pairwise h, fun e => nomatch e⟩

/-- Reading a scene after one is replaced. -/
theorem Store.setScene_get (σ : Store) (n m : SceneNo) (c : Scene) :
    (σ.setScene n c).scenes.get m = if m = n then c else σ.scenes.get m := by
  unfold Store.setScene
  rw [Vector.get_eq_getElem, Vector.getElem_set, Vector.get_eq_getElem]
  by_cases h : m = n
  · rw [if_pos h, if_pos (congrArg Fin.val h.symm)]
  · rw [if_neg h, if_neg fun e => h (Fin.ext e.symm)]

/-! ## Every step -/

/-- The laws of the table and of the scenes, and clear new flags, over the store. -/
def Store.Lawful (σ : Store) : Prop :=
  TableLaws σ.table.slots ∧ (∀ n, SceneLaws (σ.scenes.get n)) ∧ ∀ i p, slotAt σ.table.slots i = some p → p.new = false

theorem tableInvariant_iff (s : State) : TableInvariant s ↔ s.store.Lawful := Iff.rfl

theorem slotAt_emptied (i : Slot) : slotAt PlateTable.reset.slots i = none := by
  simp [slotAt, PlateTable.reset, Vector.get]

theorem tableLaws_emptied : TableLaws PlateTable.reset.slots := fun i _ p _ _ hp _ => by
  rw [slotAt_emptied] at hp; cases hp

/-- Replacing a scene by one that obeys its laws keeps the store lawful. -/
theorem Store.Lawful.setScene {σ : Store} (h : σ.Lawful) (n : SceneNo) {c : Scene} (hc : SceneLaws c) :
    (σ.setScene n c).Lawful := by
  obtain ⟨ht, hs, hn⟩ := h
  refine ⟨ht, fun m => ?_, hn⟩
  rw [σ.setScene_get]
  split
  · exact hc
  · exact hs m

/-- An empty table is lawful beside lawful scenes. -/
theorem Store.Lawful.emptied {σ : Store} (h : ∀ n, SceneLaws (σ.scenes.get n)) :
    ({ σ with table := PlateTable.reset } : Store).Lawful :=
  ⟨tableLaws_emptied, h, fun i p hp => by rw [slotAt_emptied] at hp; cases hp⟩

theorem scenes_powerOn (n : SceneNo) : State.reset.store.scenes.get n = Scene.empty := by
  simp [State.store, State.reset, Vector.get]

theorem lawful_powerOn : State.reset.store.Lawful :=
  Store.Lawful.emptied (σ := State.reset.store) fun n => by rw [scenes_powerOn]; exact sceneLaws_empty

/-- Every effect of a command keeps the store lawful. -/
theorem StoreEffect.lawful {σ τ : Store} (e : StoreEffect σ τ) (h : σ.Lawful) : τ.Lawful := by
  cases e with
  | keep => exact h
  | post a _ => exact h
  | boundary f =>
    obtain ⟨ht, hs, _⟩ := h
    obtain ⟨hlaws, hnew⟩ := tableBoundary_laws hs ht
    exact ⟨hlaws, hs, hnew⟩
  | emptied => exact .emptied h.2.1
  | powerOn => exact lawful_powerOn
  | save n f => exact h.setScene n (σ.saved_laws f h.1)
  | clear n => exact h.setScene n sceneLaws_empty
  | write v _ => exact h

/-- Settles O56: what a step does to the store is one of the effects, and each keeps the laws. -/
theorem stepsKeepTheTableLaws : Obligations.StepsKeepTheTableLaws := fun _ _ h e => (step_effect e).lawful h

end Sys2Proof.Machine
end

section
/-! PROOFS. Every step keeps plates, images, queued amendments and cues in range, and the rotation index between P and 31 (01 R4, R13,
R15, R17; 02 R32, R34; 04 R80). -/

namespace Sys2Proof.Machine

/-! ## Host fields -/

theorem HostFields.InRange.withMix {h : HostFields} (hr : h.InRange) {level : Nat} (hl : level ≤ 16) :
    ({ h with mixTarget := level } : HostFields).InRange := by
  unfold HostFields.InRange at *
  tauto

theorem HostFields.InRange.withLifetime {h : HostFields} (hr : h.InRange) {n : Nat} (hn : n ≤ 65535) :
    ({ h with lifetime := n } : HostFields).InRange := by
  unfold HostFields.InRange at *
  tauto

/-- A record moved within the coordinate range, its rates in range (01 R4, R13). -/
theorem HostFields.InRange.moved {h : HostFields} (hr : h.InRange) {y x ry rx : Int} (hy : -1024 ≤ y ∧ y ≤ 2047)
    (hx : -1024 ≤ x ∧ x ≤ 2047) (hry : -16 ≤ ry ∧ ry ≤ 15) (hrx : -32 ≤ rx ∧ rx ≤ 31) :
    ({ h with top := y, left := x, rowRate := ry, colRate := rx } : HostFields).InRange := by
  unfold HostFields.InRange at *
  tauto

/-- A property of the old value and of a selected value holds of the value an AMEND leaves (02 R42). -/
theorem getD_range {α : Type} {P : α → Prop} {v : Option α} {old : α} (ho : P old) (hv : ∀ x, v = some x → P x) :
    P (v.getD old) := by
  cases v with
  | none => exact ho
  | some x => exact hv x rfl

theorem amendHost_inRange {sel : FieldSelect} {h : HostFields} (hs : sel.InRange) (hr : h.InRange) :
    (amendHost sel h).InRange := by
  obtain ⟨sgroup, slayer, stop, sleft, sheight, swidth, strans, smix, sfade, slife, srow, scol, sstopRow, sstopCol⟩ := hs
  obtain ⟨htag0, htag1, hgroup, hlayer, htop0, htop1, hleft0, hleft1, hheight0, hheight1, hwidth0, hwidth1, htrans, hmix, hfade,
    hlife, hrow0, hrow1, hcol0, hcol1, hstopRow, hstopCol⟩ := hr
  have htop := getD_range (P := fun x : Int => -1024 ≤ x ∧ x ≤ 2047) ⟨htop0, htop1⟩ stop
  have hleft := getD_range (P := fun x : Int => -1024 ≤ x ∧ x ≤ 2047) ⟨hleft0, hleft1⟩ sleft
  have hheight := getD_range (P := fun x : Nat => 1 ≤ x ∧ x ≤ 576) ⟨hheight0, hheight1⟩ sheight
  have hwidth := getD_range (P := fun x : Nat => 1 ≤ x ∧ x ≤ 1024) ⟨hwidth0, hwidth1⟩ swidth
  have hrow := getD_range (P := fun x : Int => -16 ≤ x ∧ x ≤ 15) ⟨hrow0, hrow1⟩ srow
  have hcol := getD_range (P := fun x : Int => -32 ≤ x ∧ x ≤ 31) ⟨hcol0, hcol1⟩ scol
  exact ⟨htag0, htag1, getD_range (P := (· ≤ 7)) hgroup sgroup, getD_range (P := (· ≤ 3)) hlayer slayer, htop.1, htop.2,
    hleft.1, hleft.2, hheight.1, hheight.2, hwidth.1, hwidth.2,
    getD_range (P := fun t : Option Nat => ∀ x, t = some x → x ≤ 15) htrans fun t ht x hx => strans x (hx ▸ ht),
    getD_range (P := (· ≤ 16)) hmix smix, getD_range (P := (· ≤ 15)) hfade sfade, getD_range (P := (· ≤ 65535)) hlife slife,
    hrow.1, hrow.2, hcol.1, hcol.2,
    getD_range (P := fun t : Option Int => ∀ x, t = some x → -1024 ≤ x ∧ x ≤ 2047) hstopRow fun t ht x hx => sstopRow x (hx ▸ ht),
    getD_range (P := fun t : Option Int => ∀ x, t = some x → -1024 ≤ x ∧ x ≤ 2047) hstopCol fun t ht x hx => sstopCol x (hx ▸ ht)⟩

/-! ## Plates made by amendments -/

theorem shownMix_range {h : HostFields} (hr : h.mixTarget ≤ 16) : shownMix h ≤ 16 := by
  unfold shownMix
  split
  · exact hr
  · exact Nat.zero_le _

theorem HostFields.InRange.mixTarget_le {h : HostFields} (hr : h.InRange) : h.mixTarget ≤ 16 := by
  unfold HostFields.InRange at hr; tauto

/-- A plate with fade phase 0 that is not ARMED with a mix and not CLOSING without a fade step is in range as its record is. -/
theorem Plate.InRange.of_phase_zero {p : Plate} (hh : p.toHostFields.InRange) (hmix : p.mix ≤ 16) (hphase : p.fadePhase = 0)
    (harmed : p.state = .armed → p.mix = 0) (hclosing : p.state = .closing → p.fadeStep ≠ 0) : p.InRange :=
  ⟨hh, hmix, fun _ => hphase, fun hf => by rw [hphase]; exact Nat.pos_of_ne_zero hf, harmed, hclosing⟩

theorem createPlate_inRange (f : FieldNo) {h : HostFields} (hr : h.InRange) : (createPlate f h).InRange := by
  unfold createPlate
  split
  · exact .of_phase_zero hr (shownMix_range hr.mixTarget_le) rfl (fun e => nomatch e) (fun e => nomatch e)
  · exact .of_phase_zero hr (Nat.zero_le _) rfl (fun _ => rfl) (fun e => nomatch e)

theorem becomeShown_inRange {p : Plate} (h : p.InRange) (b : Bool) : ({ becomeShown p with new := b } : Plate).InRange :=
  .of_phase_zero h.1 (shownMix_range h.1.mixTarget_le) rfl (fun e => nomatch e) (fun e => nomatch e)

theorem closing_inRange {p : Plate} (h : p.InRange) (hf : p.fadeStep ≠ 0) (b : Bool) :
    ({ p with state := .closing, fadePhase := 0, new := b } : Plate).InRange :=
  .of_phase_zero h.1 h.2.1 rfl (fun e => nomatch e) (fun _ => hf)

theorem installImage_inRange {m : Image} (h : m.toHostFields.InRange) : (installImage m).InRange := by
  unfold installImage
  split
  · exact .of_phase_zero h h.mixTarget_le rfl (fun e => nomatch e) (fun e => nomatch e)
  · exact .of_phase_zero h (Nat.zero_le _) rfl (fun _ => rfl) (fun e => nomatch e)

/-- A plate whose record changes outside the fade step stays in range as its new record is. -/
theorem Plate.InRange.withHost {p : Plate} (h : p.InRange) {g : HostFields} (hg : g.InRange) (hf : g.fadeStep = p.fadeStep)
    (held new : Bool) : ({ p with toHostFields := g, held := held, new := new } : Plate).InRange := by
  obtain ⟨-, hmix, hzero, hphase, harmed, hclosing⟩ := h
  exact ⟨hg, hmix, fun e => hzero (hf ▸ e), fun e => hf ▸ hphase (hf ▸ e), harmed, fun e => hf ▸ hclosing e⟩

theorem amendPlate_inRange {sel : FieldSelect} {p : Plate} (hs : sel.InRange) (h : p.InRange) (hstate : p.state ≠ .closing) :
    (amendPlate sel p).InRange := by
  have hg := amendHost_inRange hs h.1
  cases hsel : sel.fadeStep with
  | none =>
    have e : amendPlate sel p = { p with toHostFields := amendHost sel p.toHostFields } := by simp [amendPlate, hsel]
    rw [e]
    exact h.withHost hg (by simp [amendHost, hsel]) p.held p.new
  | some n =>
    obtain ⟨-, hmix, -, -, harmed, -⟩ := h
    exact .of_phase_zero hg hmix (by simp [amendPlate, hsel]) harmed fun e => absurd e hstate

/-! ## The steps of the advance -/

theorem lifetimeStep_inRange {p q : Plate} (h : p.InRange) (e : lifetimeStep p = some q) : q.InRange := by
  have hlife : p.lifetime ≤ 65535 := by have := h.1; unfold HostFields.InRange at this; tauto
  unfold lifetimeStep at e
  split at e
  · cases e; exact h
  · split at e
    · cases e
      exact h.withHost (h.1.withLifetime (Nat.le_trans (Nat.sub_le _ _) hlife)) rfl p.held p.new
    · split at e
      · cases e
      · rename_i hf
        cases e
        exact closing_inRange (h.withHost (h.1.withLifetime (Nat.zero_le _)) rfl p.held p.new) hf p.new

theorem towardLevel_le {m t : Nat} (hm : m ≤ 16) (ht : t ≤ 16) : towardLevel m t ≤ 16 := by
  unfold towardLevel
  split <;> omega

/-- The fade step of a SHOWN plate keeps it in range (02 R55). -/
theorem shownFade_inRange {p : Plate} (h : p.InRange) (hs : p.state = .shown) : (shownFade p).InRange := by
  have hna : p.state ≠ .armed := by rw [hs]; decide
  have hnc : p.state ≠ .closing := by rw [hs]; decide
  obtain ⟨hh, hmix, hzero, hphase, harmed, hclosing⟩ := h
  unfold shownFade
  split
  · exact .of_phase_zero hh hmix rfl harmed hclosing
  · split
    · exact ⟨hh, hh.mixTarget_le, hzero, hphase, fun e => absurd e hna, hclosing⟩
    · rename_i hf
      split
      · rename_i hlt
        exact ⟨hh, hmix, fun e => absurd e hf, fun _ => hlt, harmed, hclosing⟩
      · exact .of_phase_zero hh (towardLevel_le hmix hh.mixTarget_le) rfl (fun e => absurd e hna) fun e => absurd e hnc

theorem closingFade_inRange {p q : Plate} (h : p.InRange) (hs : p.state = .closing) (e : closingFade p = some q) :
    q.InRange := by
  have hna : p.state ≠ .armed := by rw [hs]; decide
  obtain ⟨hh, hmix, hzero, hphase, harmed, hclosing⟩ := h
  unfold closingFade at e
  split at e
  · cases e
  · split at e
    · rename_i hlt
      cases e
      exact ⟨hh, hmix, fun e => absurd e (hclosing hs), fun _ => hlt, harmed, hclosing⟩
    · split at e
      · cases e
      · cases e
        exact .of_phase_zero hh (Nat.le_trans (Nat.sub_le _ _) hmix) rfl (fun e => absurd e hna) hclosing

/-- A candidate lies in the coordinate range, at the old rate or at rate 0 (02 R57). -/
theorem axisCandidate_range {x rate : Int} {stop : Option Int} (hx : -1024 ≤ x ∧ x ≤ 2047)
    (hstop : ∀ z, stop = some z → -1024 ≤ z ∧ z ≤ 2047) :
    (-1024 ≤ (axisCandidate x rate stop).coord ∧ (axisCandidate x rate stop).coord ≤ 2047) ∧
      ((axisCandidate x rate stop).rate = rate ∨ (axisCandidate x rate stop).rate = 0) := by
  unfold axisCandidate
  split
  · exact ⟨hx, .inr rfl⟩
  · split
    · rename_i z hz
      exact ⟨hstop z (Option.filter_eq_some_iff.mp hz).1, .inr rfl⟩
    · unfold Config.coordMin Config.coordMax
      split
      · exact ⟨by constructor <;> decide, .inr rfl⟩
      · split
        · exact ⟨by constructor <;> decide, .inr rfl⟩
        · exact ⟨by dsimp only; omega, .inl rfl⟩

theorem movedPlate_inRange {p : Plate} (h : p.InRange) :
    (movedPlate p (axisCandidate p.top p.rowRate p.stopRow) (axisCandidate p.left p.colRate p.stopCol)).InRange := by
  have hh := h.1
  obtain ⟨-, -, -, -, htop0, htop1, hleft0, hleft1, -, -, -, -, -, -, -, -, hrow0, hrow1, hcol0, hcol1, hstopRow, hstopCol⟩ := hh
  obtain ⟨hy, hry⟩ := axisCandidate_range (rate := p.rowRate) ⟨htop0, htop1⟩ hstopRow
  obtain ⟨hx, hrx⟩ := axisCandidate_range (rate := p.colRate) ⟨hleft0, hleft1⟩ hstopCol
  refine h.withHost (h.1.moved hy hx ?_ ?_) rfl false p.new
  · rcases hry with e | e <;> rw [e]
    · exact ⟨hrow0, hrow1⟩
    · constructor <;> decide
  · rcases hrx with e | e <;> rw [e]
    · exact ⟨hcol0, hcol1⟩
    · constructor <;> decide

theorem closeAtStopStep_inRange {p q : Plate} (h : p.InRange) (e : closeAtStopStep p = some q) : q.InRange := by
  unfold closeAtStopStep at e
  split at e
  · split at e
    · cases e
    · rename_i hf
      cases e
      exact closing_inRange h hf p.new
  · cases e; exact h

theorem motionStep_inRange {ts : Slots} {i : Slot} {p q : Plate} (h : p.InRange) (e : (motionStep ts i p).plate = some q) :
    q.InRange := by
  have hheld : ∀ b, ({ p with held := b } : Plate).InRange := fun b => h.withHost h.1 rfl b p.new
  unfold motionStep at e
  split at e
  · cases e; exact hheld false
  · dsimp only at e
    split at e
    · cases e; exact hheld true
    · unfold moveStep at e
      dsimp only at e
      split at e
      · rename_i m hm
        cases e
        exact closeAtStopStep_inRange (movedPlate_inRange h) hm
      · cases e

theorem advanceClosing_inRange {ts : Slots} {i : Slot} {p q : Plate} (h : p.InRange) (hs : p.state = .closing)
    (e : (advanceClosing ts i p).plate = some q) : q.InRange := by
  unfold advanceClosing at e
  split at e
  · cases e
  · rename_i p' hp'
    exact motionStep_inRange (closingFade_inRange h hs hp') e

/-- The lifetime step leaves a plate SHOWN or makes it CLOSING (02 R54). -/
theorem lifetimeStep_state {p q : Plate} (hs : p.state = .shown) (e : lifetimeStep p = some q) :
    q.state = .shown ∨ q.state = .closing := by
  unfold lifetimeStep at e
  split at e
  · cases e; exact .inl hs
  · split at e
    · cases e; exact .inl hs
    · split at e <;> cases e
      exact .inr rfl

theorem advanceShown_inRange {ts : Slots} {i : Slot} {p q : Plate} (h : p.InRange) (hs : p.state = .shown)
    (e : (advanceShown ts i p).plate = some q) : q.InRange := by
  unfold advanceShown at e
  split at e
  · cases e
  · rename_i p' hp'
    have hr := lifetimeStep_inRange h hp'
    split at e
    · rename_i hc
      exact advanceClosing_inRange hr hc e
    · rename_i hc
      exact motionStep_inRange (shownFade_inRange hr ((lifetimeStep_state hs hp').resolve_right hc)) e

/-- The advance of a plate keeps it in range (02 R52). -/
theorem advancePlate_inRange {f : FieldNo} {ts : Slots} {i : Slot} {p q : Plate} (h : p.InRange)
    (e : (advancePlate f ts i p).plate = some q) : q.InRange := by
  unfold advancePlate at e
  split at e
  · rcases advanceArmed_cases f p with e' | e' <;> rw [e'] at e <;> cases e
    · exact h
    · exact becomeShown_inRange h p.new
  · rename_i hs
    exact advanceShown_inRange h hs e
  · rename_i hs
    exact advanceClosing_inRange h hs e

/-! ## The work of a boundary -/

/-- Every live plate lies in range. -/
def SlotsInRange (ts : Slots) : Prop := ∀ i p, slotAt ts i = some p → p.InRange

/-- P is at most 32 and the rotation index lies between P and 31 (01 R15, R17). -/
def RotationInRange (pinned : Nat) (rot : Slot) : Prop := pinned ≤ 32 ∧ (pinned ≤ rot.val ∨ rot.val = 31)

theorem RotationInRange.step {pinned : Nat} {rot : Slot} (h : RotationInRange pinned rot) :
    RotationInRange pinned (rotationStep pinned rot) := by
  refine ⟨h.1, ?_⟩
  rcases Nat.lt_or_ge pinned rot.val with hlt | hle
  · have := rotationStep_down hlt
    exact .inl (by omega)
  · rw [rotationStep_wrap hle]; exact .inr rfl

/-- The table of the work lies in range. -/
def TableWork.InRange (w : TableWork) : Prop := SlotsInRange w.slots ∧ RotationInRange w.pinned w.rotation

/-- Writing one slot with a plate in range, or with none, keeps the work in range. -/
theorem Rewritten.inRange {w v : TableWork} {i : Slot} {q : Option Plate} (e : Rewritten w v i q) (h : w.InRange)
    (hq : ∀ p, q = some p → p.InRange) : v.InRange := by
  obtain ⟨hslots, hpinned, hrot⟩ := e
  constructor
  · intro j p hp
    rw [hslots, slotAt_putSlot] at hp
    split at hp
    · exact hq p hp
    · exact h.1 j p hp
  · rw [hpinned]
    rcases hrot with hrot | hrot <;> rw [hrot]
    · exact h.2
    · exact h.2.step

theorem Rewritten.inRange_some {w v : TableWork} {i : Slot} {q : Plate} (e : Rewritten w v i (some q)) (h : w.InRange)
    (hq : q.InRange) : v.InRange := e.inRange h fun _ hp => Option.some.inj hp ▸ hq

theorem Rewritten.inRange_free {w v : TableWork} {i : Slot} (e : Rewritten w v i none) (h : w.InRange) : v.InRange :=
  e.inRange h fun _ hp => nomatch hp

theorem closeSlot_inRange {w : TableWork} {i : Slot} {p : Plate} (h : w.InRange) (hp : slotAt w.slots i = some p) :
    (closeSlot w i p).InRange := by
  rcases closeSlot_cases w i p with e | e | ⟨hf, e⟩
  · rw [e]; exact h
  · exact e.inRange_free h
  · exact e.inRange_some h (closing_inRange (h.1 i p hp) hf true)

theorem applyGroupClose_inRange {w : TableWork} (g : Nat) (h : w.InRange) : (applyGroupClose w g).InRange := by
  unfold applyGroupClose
  refine List.foldlRecOn allSlots (groupCloseSlot g) h fun u hu i _ => ?_
  rcases groupCloseSlot_cases g u i with e | ⟨p, hp, e⟩
  · rw [e]; exact hu
  · rw [e]; exact closeSlot_inRange hu hp

theorem applyGroupMove_inRange {w v : TableWork} {g : Nat} {r c : Int} (h : w.InRange) (e : applyGroupMove w g r c = .ok v) :
    v.InRange := by
  obtain ⟨hclear, rfl⟩ := applyGroupMove_ok e
  refine ⟨fun i p hp => ?_, h.2⟩
  rw [slotAt_moveMembers] at hp
  split at hp
  · rename_i hi
    obtain ⟨q, hq, rfl⟩ := Option.map_eq_some_iff.mp hp
    obtain ⟨⟨hy, hx⟩, -⟩ := hclear i q hi hq
    have hr := h.1 i q hq
    obtain ⟨-, -, -, -, -, -, -, -, -, -, -, -, -, -, -, -, hrow0, hrow1, hcol0, hcol1, -, -⟩ := hr.1
    exact hr.withHost (hr.1.moved ((coordOk_iff _).mp hy) ((coordOk_iff _).mp hx) ⟨hrow0, hrow1⟩ ⟨hcol0, hcol1⟩) rfl q.held q.new
  · exact h.1 i p hp

/-- Every image of every scene has its record in range. -/
def ImagesInRange (sc : Scenes) : Prop := ∀ n, ∀ m ∈ (sc.get n).images, m.toHostFields.InRange

theorem applyRecall_inRange {sc : Scenes} {w v : TableWork} {n : SceneNo} (hs : ImagesInRange sc) (h : w.InRange)
    (e : applyRecall sc w n = .ok v) : v.InRange := by
  obtain ⟨-, hslots, hpinned, hrot⟩ := applyRecall_ok e
  refine ⟨fun i p hp => ?_, by rw [hpinned, hrot]; exact h.2⟩
  rw [hslots, slotAt_installScene] at hp
  split at hp
  · exact h.1 i p hp
  · obtain ⟨m, hm, rfl⟩ := Option.map_eq_some_iff.mp hp
    exact installImage_inRange (hs n m (List.mem_of_getElem? hm))

/-- An amendment in range carried out keeps the work in range. -/
theorem applyOp_inRange {f : FieldNo} {sc : Scenes} {w v : TableWork} {op : AmendOp} (hs : ImagesInRange sc) (ho : op.InRange)
    (h : w.InRange) (e : applyOp f sc w op = .ok v) : v.InRange := by
  cases op with
  | place slot g => obtain ⟨-, -, i, hw⟩ := applyPlace_ok e; exact hw.inRange_some h (createPlate_inRange f ho)
  | amend tag sel =>
    obtain ⟨i, p, hp, hstate, -, hw⟩ := applyAmend_ok e
    exact hw.inRange_some h (amendPlate_inRange ho.2 (h.1 i p hp) hstate)
  | showPlate tag => obtain ⟨i, p, hp, hw⟩ := applyShow_ok e; exact hw.inRange_some h (becomeShown_inRange (h.1 i p hp) true)
  | close tag => obtain ⟨i, p, hp, rfl⟩ := applyClose_ok e; exact closeSlot_inRange h hp
  | drop tag => obtain ⟨i, hw⟩ := applyDrop_ok e; exact hw.inRange_free h
  | mix tag level =>
    obtain ⟨i, p, hp, hw⟩ := applyMix_ok e
    have hr := h.1 i p hp
    exact hw.inRange_some h (hr.withHost (hr.1.withMix ho.2) rfl p.held p.new)
  | groupClose g => rw [← Except.ok.inj e]; exact applyGroupClose_inRange g h
  | groupMove g r c => exact applyGroupMove_inRange h e
  | setPinned p => rw [← Except.ok.inj e]; exact ⟨h.1, ho, .inr rfl⟩
  -- RECALL, the kind that is left
  | _ => exact applyRecall_inRange hs h e

theorem advanceSlot_inRange {f : FieldNo} {w : TableWork} (i : Slot) (h : w.InRange) : (advanceSlot f w i).InRange := by
  rcases advanceSlot_cases f w i with e | ⟨p, hp, e⟩
  · rw [e]; exact h
  · exact e.inRange h fun q hq => advancePlate_inRange (h.1 i p hp) hq

/-- A boundary over plates, images and amendments in range leaves the table in range (02 R38; 01 R17). -/
theorem tableBoundary_inRange {f : FieldNo} {sc : Scenes} {t : PlateTable} (hs : ImagesInRange sc)
    (hq : ∀ a ∈ t.queue, a.op.InRange) (hts : SlotsInRange t.slots) (hrot : RotationInRange t.pinned t.rotation) :
    SlotsInRange (tableBoundary f sc t).table.slots ∧
      RotationInRange (tableBoundary f sc t).table.pinned (tableBoundary f sc t).table.rotation := by
  obtain ⟨w, hw, hslots, hpinned, hrotation, -⟩ := tableBoundary_table f sc t
  have hrange : w.InRange := by
    rw [hw]
    exact boundary_keeps (I := TableWork.InRange)
      (fun u v hu e1 e2 e3 => by unfold TableWork.InRange; rw [e1, e2, e3]; exact hu)
      (fun a ha u v hu e => applyOp_inRange hs (hq a ha) hu e) (fun u i hu => advanceSlot_inRange i hu) ⟨hts, hrot⟩
  rw [hslots, hpinned]
  constructor
  · intro i p hp
    rw [slotAt_clearNew] at hp
    obtain ⟨q, hq, rfl⟩ := Option.map_eq_some_iff.mp hp
    exact (hrange.1 i q hq).withHost (hrange.1 i q hq).1 rfl q.held false
  · rcases hrotation with e | e <;> rw [e]
    · exact hrange.2
    · exact hrange.2.step

/-! ## Every step -/

/-- The ranges over the store. -/
structure Store.InRange (σ : Store) : Prop where
  slots : SlotsInRange σ.table.slots
  images : ImagesInRange σ.scenes
  queue : ∀ a ∈ σ.table.queue, a.op.InRange
  cues : σ.CuesInRange
  rotation : RotationInRange σ.table.pinned σ.table.rotation

theorem rangeInvariant_iff (s : State) : RangeInvariant s ↔ s.store.InRange :=
  ⟨fun ⟨hts, hs, hq, hc, hr⟩ => ⟨hts, hs, hq, hc, hr⟩, fun ⟨hts, hs, hq, hc, hr⟩ => ⟨hts, hs, hq, hc, hr⟩⟩

/-- Replacing a scene by one whose images are in range keeps the store in range. -/
theorem Store.InRange.setScene {σ : Store} (h : σ.InRange) (n : SceneNo) {c : Scene}
    (hc : ∀ m ∈ c.images, m.toHostFields.InRange) : (σ.setScene n c).InRange := by
  refine { h with images := fun k m hm => ?_ }
  rw [σ.setScene_get] at hm
  split at hm
  · exact hc m hm
  · exact h.images k m hm

/-- An empty table is in range beside images and cues in range. -/
theorem Store.InRange.emptied {σ : Store} (hs : ImagesInRange σ.scenes) (hc : σ.CuesInRange) :
    ({ σ with table := PlateTable.reset } : Store).InRange where
  slots i p hp := by rw [slotAt_emptied] at hp; cases hp
  images := hs
  queue _ ha := nomatch ha
  cues := hc
  rotation := ⟨Nat.zero_le _, .inr rfl⟩

theorem cues_powerOn : State.reset.store.CuesInRange := fun i => by
  have : State.reset.store.cues.get i = CueEntry.reset := by simp [State.store, State.reset, Sequencer.reset, Vector.get]
  rw [this]; rfl

theorem inRange_powerOn : State.reset.store.InRange :=
  Store.InRange.emptied (σ := State.reset.store) (fun n m hm => by rw [scenes_powerOn] at hm; cases hm) cues_powerOn

/-- Every effect of a command keeps the store in range. -/
theorem StoreEffect.inRange {σ τ : Store} (e : StoreEffect σ τ) (h : σ.InRange) : τ.InRange := by
  cases e with
  | keep => exact h
  | post a ha =>
    refine { h with queue := fun b hb => ?_ }
    rcases List.mem_append.mp hb with hb | hb
    · exact h.queue b hb
    · rw [List.mem_singleton.mp hb]; exact ha h.cues
  | boundary f =>
    obtain ⟨hslots, hrot⟩ := tableBoundary_inRange (f := f) h.images h.queue h.slots h.rotation
    exact { h with slots := hslots, queue := fun _ ha => absurd ha List.not_mem_nil, rotation := hrot }
  | emptied => exact .emptied h.images h.cues
  | powerOn => exact inRange_powerOn
  | save n f =>
    refine h.setScene n fun m hm => ?_
    obtain ⟨i, p, hp, e⟩ := mem_savedImages hm
    rw [e]
    exact (h.slots i p hp).1
  | clear n => exact h.setScene n fun _ hm => nomatch hm
  | write v hv =>
    refine { h with cues := fun i => ?_ }
    rcases hv i with e | e
    · exact (congrArg CueEntry.inRange e).trans (h.cues i)
    · exact e

/-- Settles O57: what a step does to the store is one of the effects, and each keeps the ranges. -/
theorem stepsKeepTheRanges : Obligations.StepsKeepTheRanges := fun s t h e =>
  (rangeInvariant_iff t).mpr ((step_effect e).inRange ((rangeInvariant_iff s).mp h))

end Sys2Proof.Machine
end

section
/-! PROOFS. The part at power-on (01 R30): the table is empty, and every invariant holds. -/

namespace Sys2Proof.Machine

/-- Every cause is clear at power-on (10 R194). -/
theorem attention_powerOn (c : Cause) : State.reset.att.get c = CauseState.reset := by cases c <;> rfl

/-- Settles O2: a power-on answers the reset state, with the commands that wait. -/
theorem powerOnEmptiesTheTable : Obligations.PowerOnEmptiesTheTable := fun s =>
  ⟨State.reset.withPending s.pending, execPowerOnReset_eq s, slotAt_emptied, rfl, rfl, rfl, (fun _ h => nomatch h), fun c => by
    rw [State.withPending_att, attention_powerOn]; rfl⟩

theorem sizes_powerOn : SizeInvariant State.reset := ⟨Nat.zero_le _, Nat.zero_le _, Nat.zero_le _, fun _ h => nomatch h⟩

theorem counts_powerOn : CountingInvariant State.reset :=
  ⟨⟨rfl, rfl⟩, cues_powerOn, fun h => (nomatch h), fun h => (nomatch h), fun _ => rfl, fun h => absurd rfl h, fun _ => rfl,
    fun h => absurd rfl h⟩

/-- The reset values of the nine parameters lie in their ranges (08 R169). -/
theorem params_powerOn : RasterParams.reset.InRange := by unfold RasterParams.InRange; decide

theorem timing_powerOn : TimingInvariant State.reset :=
  ⟨⟨params_powerOn, by decide, by decide, by decide⟩, rfl, by decide, ⟨fun _ => by decide, fun _ => rfl⟩, rfl, rfl⟩

theorem latches_powerOn : AttentionInvariant State.reset := fun c => by
  rw [attention_powerOn]
  exact ⟨fun _ => ⟨rfl, rfl⟩, fun h => nomatch h⟩

/-- Settles O55: each invariant at the reset state, by its lemma. -/
theorem invariantsHoldAtReset : Obligations.InvariantsHoldAtReset :=
  ⟨(tableInvariant_iff _).mpr lawful_powerOn, (rangeInvariant_iff _).mpr inRange_powerOn, sizes_powerOn, counts_powerOn,
    timing_powerOn, latches_powerOn⟩

end Sys2Proof.Machine
end

section
/-! PROOFS. PLACE by its checks in order, the choice of slot, and eviction (01 R12, R19 to R21; 02 R41). -/

namespace Sys2Proof.Machine

/-- The check for overlap of a PLACE, over every live plate (01 R12). -/
theorem firstHit_any_isSome (ts : Slots) (h : HostFields) :
    (firstHit ts (fun _ => false) h).isSome = true ↔ MeetsLive ts (fun _ => False) h := by
  rw [firstHit_isSome]; simp

/-- The plate that PLACE creates, and its occurrence (02 R41). -/
theorem createPlate_placedAs (f : FieldNo) (h : HostFields) : PlacedAs f h (createPlate f h) := by
  unfold createPlate
  split
  · rename_i hs
    rw [startsShown_iff] at hs
    exact ⟨rfl, rfl, rfl, rfl, fun _ => ⟨rfl, rfl⟩, fun hn => absurd hs hn⟩
  · rename_i hs
    rw [startsShown_iff] at hs
    exact ⟨rfl, rfl, rfl, rfl, fun hy => absurd hy hs, fun _ => ⟨rfl, rfl⟩⟩

theorem createNotice_eq {f : FieldNo} {h : HostFields} {ds : List Detail} (hs : StartsAt h.start f → ds = shownRaised h)
    (hn : ¬ StartsAt h.start f → ds = []) : createNotice f h = ds := by
  unfold createNotice
  split
  · rename_i hst; rw [hs ((startsShown_iff _ _).mp hst)]; rfl
  · rename_i hst; rw [hn fun e => hst ((startsShown_iff _ _).mpr e)]

/-- The lowest FREE unpinned slot (01 R19). -/
theorem lowestFree_eq_some {ts : Slots} {pinned : Nat} {i : Slot} (hi : pinned ≤ i.val) (hfree : slotAt ts i = none)
    (hlow : ∀ j : Slot, pinned ≤ j.val → j < i → slotAt ts j ≠ none) : lowestFree ts pinned = some i := by
  refine List.find?_eq_some_iff_getElem.mpr ⟨by simp [hi, hfree], i.val, by simp [allSlots], by simp [allSlots], fun j hj => ?_⟩
  rcases Nat.lt_or_ge j pinned with hlt | hge
  · simp [allSlots, hlt]
  · have hlive := hlow ⟨j, Nat.lt_trans hj i.isLt⟩ hge hj
    simp [allSlots, Option.isSome_iff_ne_none, hlive]

/-- The rotation index after an eviction is the one that 01 R17 gives. -/
theorem rotationStep_eq {pinned : Nat} {rot next : Slot} (hwrap : rot.val ≤ pinned → next = 31)
    (hdown : pinned < rot.val → next.val + 1 = rot.val) : rotationStep pinned rot = next := by
  rcases Nat.lt_or_ge pinned rot.val with hlt | hle
  · have h1 := rotationStep_down hlt
    have h2 := hdown hlt
    exact Fin.ext (by omega)
  · rw [rotationStep_wrap hle, hwrap hle]

section
variable {f : FieldNo} {sc : Scenes} {w : TableWork} {h : HostFields}

/-! ## The checks in order -/

theorem place_tagInUse (slot : Option Slot) (ht : TagLive w.slots h.tag) :
    applyOp f sc w (.place slot h) = .error .tagInUse := by
  rw [← findTag_isSome] at ht
  cases slot <;> simp [applyOp, applyPlaceAt, applyPlaceAny, ht]

theorem placeAt_slotInUse {i : Slot} (ht : ¬ TagLive w.slots h.tag) (hi : slotAt w.slots i ≠ none) :
    applyOp f sc w (.place (some i) h) = .error .slotInUse := by
  rw [← findTag_isSome] at ht
  simp [applyOp, applyPlaceAt, ht, Option.isSome_iff_ne_none, hi]

theorem placeAny_tableFull (ht : ¬ TagLive w.slots h.tag) (hp : 32 ≤ w.pinned) :
    applyOp f sc w (.place none h) = .error .tableFull := by
  rw [← findTag_isSome] at ht
  simp [applyOp, applyPlaceAny, ht, hp]

theorem placeAt_overlap {i : Slot} (ht : ¬ TagLive w.slots h.tag) (hi : slotAt w.slots i = none)
    (hm : MeetsLive w.slots (fun _ => False) h) : applyOp f sc w (.place (some i) h) = .error .overlap := by
  rw [← findTag_isSome] at ht
  rw [← firstHit_any_isSome] at hm
  simp [applyOp, applyPlaceAt, ht, hi, hm]

theorem placeAny_overlap (ht : ¬ TagLive w.slots h.tag) (hp : w.pinned < 32) (hm : MeetsLive w.slots (fun _ => False) h) :
    applyOp f sc w (.place none h) = .error .overlap := by
  rw [← findTag_isSome] at ht
  rw [← firstHit_any_isSome] at hm
  simp [applyOp, applyPlaceAny, ht, Nat.not_le.mpr hp, hm]

/-! ## The creation -/

theorem placeAt_ok {i : Slot} (ht : ¬ TagLive w.slots h.tag) (hi : slotAt w.slots i = none)
    (hm : ¬ MeetsLive w.slots (fun _ => False) h) :
    applyOp f sc w (.place (some i) h) = .ok (w.write i (some (createPlate f h)) (createNotice f h)) := by
  rw [← findTag_isSome] at ht
  rw [← firstHit_any_isSome] at hm
  simp [applyOp, applyPlaceAt, ht, hi, hm]

theorem placeAny_ok (ht : ¬ TagLive w.slots h.tag) (hp : w.pinned < 32) (hm : ¬ MeetsLive w.slots (fun _ => False) h) :
    applyOp f sc w (.place none h) = .ok (placeAny f w h) := by
  rw [← findTag_isSome] at ht
  rw [← firstHit_any_isSome] at hm
  simp [applyOp, applyPlaceAny, ht, Nat.not_le.mpr hp, hm]

/-- PLACE ANY with a FREE unpinned slot takes the lowest (01 R19). -/
theorem placeAny_free {i : Slot} (hi : lowestFree w.slots w.pinned = some i) :
    placeAny f w h = w.write i (some (createPlate f h)) (createNotice f h) := by
  simp [placeAny, hi]

/-- PLACE ANY without one evicts the plate at the rotation index (01 R20). -/
theorem placeAny_evicts {old : Plate} {next : Slot} (hfull : lowestFree w.slots w.pinned = none)
    (hold : slotAt w.slots w.rotation = some old) (hnext : rotationStep w.pinned w.rotation = next) :
    placeAny f w h =
      { w.write w.rotation (some (createPlate f h)) (.eviction old.tag h.tag :: createNotice f h) with rotation := next } := by
  simp [placeAny, hfull, hold, hnext]

end

/-- Two records overlap exactly when they share a position on one layer (01 R12). -/
theorem meets_iff_covers {a b : HostFields} (ha : 1 ≤ a.height) (ha' : 1 ≤ a.width) (hb : 1 ≤ b.height) (hb' : 1 ≤ b.width) :
    a.meets b = true ↔ a.layer = b.layer ∧ ∃ r c, Covers a r c ∧ Covers b r c := by
  simp only [HostFields.meets, Bool.and_eq_true, beq_iff_eq, rangesMeet_iff _ _ _ _ ha hb, rangesMeet_iff _ _ _ _ ha' hb', Covers]
  constructor
  · rintro ⟨⟨hl, r, ⟨h1, h2⟩, h3, h4⟩, c, ⟨h5, h6⟩, h7, h8⟩
    exact ⟨hl, r, c, ⟨h1, h2, h5, h6⟩, h3, h4, h7, h8⟩
  · rintro ⟨hl, r, c, ⟨h1, h2, h5, h6⟩, h3, h4, h7, h8⟩
    exact ⟨⟨hl, r, ⟨h1, h2⟩, h3, h4⟩, c, ⟨h5, h6⟩, h7, h8⟩

/-- Settles O41: each check by its lemma, then the slot that is taken. -/
theorem placeChecksThenCreates : Obligations.PlaceChecksThenCreates := by
  intro f sc w o h ds hs hn
  have hds := createNotice_eq hs hn
  refine ⟨?_, ?_, fun a b => meets_iff_covers⟩
  · rintro i a rfl
    refine ⟨fun ht => applyAmendment_error (place_tagInUse _ ht), fun ht hi => applyAmendment_error (placeAt_slotInUse ht hi),
      fun ht hi hm => applyAmendment_error (placeAt_overlap ht hi hm), fun ht hi hm => ⟨_, createPlate_placedAs f h, ?_⟩⟩
    rw [applyAmendment_ok (placeAt_ok ht hi hm), hds]
    rfl
  · rintro a rfl
    refine ⟨fun ht => applyAmendment_error (place_tagInUse _ ht), fun ht hp => applyAmendment_error (placeAny_tableFull ht hp),
      fun ht hp hm => applyAmendment_error (placeAny_overlap ht hp hm), fun ht hp hm => ⟨_, createPlate_placedAs f h, ?_, ?_⟩⟩
    · intro i hi hfree hlow
      rw [applyAmendment_ok (placeAny_ok ht hp hm), placeAny_free (lowestFree_eq_some hi hfree hlow), hds]
      rfl
    · intro hfull old next hold hwrap hdown
      rw [applyAmendment_ok (placeAny_ok ht hp hm),
        placeAny_evicts ((lowestFree_eq_none _ _).mpr hfull) hold (rotationStep_eq hwrap hdown), hds]
      rfl

end Sys2Proof.Machine
end

section
/-! PROOFS. The bytes of numbers in replies, and the plate record byte by byte (09 R187). -/

namespace Sys2Proof.Machine

/-! ## Numbers as bytes -/

theorem bitVal_eq (b : Bool) (k : Nat) : bitVal b k = 2 ^ k * b.toNat := by cases b <;> simp [bitVal]

/-- A 16-bit number, least significant byte first (09 R187). -/
theorem le16_spec {n : Nat} (h : n < 65536) : ∃ a b : Byte, le16 n = [a, b] ∧ a.toNat + 256 * b.toNat = n := by
  refine ⟨_, _, rfl, ?_⟩
  simp only [BitVec.toNat_ofNat]
  omega

/-- A 32-bit number, least significant byte first (09 R187). -/
theorem le32_spec (f : FieldNo) :
    ∃ a b c d : Byte, le32 f = [a, b, c, d] ∧ a.toNat + 256 * (b.toNat + 256 * (c.toNat + 256 * d.toNat)) = f.toNat := by
  have hf := f.isLt
  obtain ⟨a, b, hab, hlow⟩ := le16_spec (n := f.toNat % 65536) (by omega)
  obtain ⟨c, d, hcd, hhigh⟩ := le16_spec (n := f.toNat / 65536) (by omega)
  exact ⟨a, b, c, d, by rw [le32, hab, hcd]; rfl, by omega⟩

/-- A signed byte (09 R187). -/
theorem byteOfInt_toInt {x : Int} (h0 : -128 ≤ x) (h1 : x ≤ 127) : (byteOfInt x).toInt = x := by
  rw [byteOfInt, BitVec.toInt_ofInt]
  exact Int.bmod_eq_of_le (by omega) (by omega)

/-- Two bytes side by side as one number. -/
theorem append_toNat (b a : Byte) : (b ++ a : BitVec 16).toNat = a.toNat + 256 * b.toNat := by
  have ha := a.isLt
  rw [BitVec.toNat_append, Nat.shiftLeft_eq, Nat.mul_comm, ← Nat.two_pow_add_eq_or_of_lt ha]
  omega

/-- A signed 16-bit number, least significant byte first (09 R187). -/
theorem le16i_spec {x : Int} (h0 : -32768 ≤ x) (h1 : x ≤ 32767) :
    ∃ a b : Byte, le16i x = [a, b] ∧ (b ++ a : BitVec 16).toInt = x := by
  obtain ⟨a, b, hab, hn⟩ := le16_spec (BitVec.ofInt 16 x).isLt
  refine ⟨a, b, hab, ?_⟩
  have hword : (b ++ a : BitVec 16) = BitVec.ofInt 16 x := BitVec.eq_of_toNat_eq ((append_toNat b a).trans hn)
  rw [hword, BitVec.toInt_ofInt]
  exact Int.bmod_eq_of_le (by omega) (by omega)

/-- The bytes of a stop: the absence marker, or the coordinate (09 R187). -/
theorem stopBytes_spec {z : Option Int} (h : ∀ x, z = some x → -1024 ≤ x ∧ x ≤ 2047) :
    ∃ a b : Byte, stopBytes z = [a, b] ∧ (z = none → a.toNat + 256 * b.toNat = 0x8000) ∧
      ∀ x, z = some x → (b ++ a : BitVec 16).toInt = x := by
  cases z with
  | none =>
    obtain ⟨a, b, hab, hn⟩ := le16_spec (n := 0x8000) (by decide)
    exact ⟨a, b, hab, fun _ => hn, fun _ e => nomatch e⟩
  | some x =>
    obtain ⟨h0, h1⟩ := h x rfl
    obtain ⟨a, b, hab, hx⟩ := le16i_spec (x := x) (by omega) (by omega)
    exact ⟨a, b, hab, (fun e => nomatch e), fun y e => Option.some.inj e ▸ hx⟩

/-- The field number that a start mode carries, 0 when it carries none (09 R187). -/
def startField : StartMode → FieldNo
  | .now => 0
  | .atField f => f
  | .onCue => 0

theorem startBytes_eq (m : StartMode) : startBytes m = le32 (startField m) := by cases m <;> rfl

/-! ## The plate record -/

@[simp] theorem plateRecord_length (i : Slot) (f : FieldNo) (p : Plate) : (plateRecord i f p).length = 30 := by
  have hstop : ∀ z, (stopBytes z).length = 2 := fun z => by cases z <;> rfl
  simp [plateRecord, startBytes_eq, hstop, le32, le16, le16i]

theorem plateStateCode_of_mem {st : PlateState} {n : Nat} (h : (st, n) ∈ plateStateCodes) : n = plateStateCode st := by
  cases st <;> simp [plateStateCodes] at h <;> exact h

theorem plateStateCode_le (st : PlateState) : plateStateCode st ≤ 2 := by cases st <;> decide

theorem keyModeCode_eq (m : KeyMode) : keyModeCode m = if m = .index then 1 else 0 := by cases m <;> rfl

/-- The byte of a number below 256 as numAt reads it. -/
theorem numAt_one {bs : List Byte} {i n : Nat} (hb : bs.getD i 0 = byteOf n) (hn : n ≤ 255) : numAt bs i 1 = n := by
  simp only [numAt, hb, byteOf_toNat hn]
  omega

/-- The 30 bytes of a plate record in range are those of 09 R187. -/
theorem plateRecord_recordOf (i : Slot) (f : FieldNo) {p : Plate} (h : p.InRange) : RecordOf i f p (plateRecord i f p) := by
  obtain ⟨⟨-, -, hgroup, hlayer, htop0, htop1, hleft0, hleft1, -, hheight, -, hwidth, htrans, hmixTarget, hfade, hlife, hrow0, hrow1,
    hcol0, hcol1, hstopRow, hstopCol⟩, hmix, hzero, hphase, -, -⟩ := h
  obtain ⟨f0, f1, f2, f3, hf, hfn⟩ := le32_spec f
  obtain ⟨s0, s1, s2, s3, hs, hsn⟩ := le32_spec (startField p.start)
  obtain ⟨l0, l1, hl, hln⟩ := le16_spec (n := p.lifetime) (by omega)
  obtain ⟨t0, t1, ht, htn⟩ := le16i_spec (x := p.top) (by omega) (by omega)
  obtain ⟨x0, x1, hx, hxn⟩ := le16i_spec (x := p.left) (by omega) (by omega)
  obtain ⟨r0, r1, hr, hrnone, hrsome⟩ := stopBytes_spec hstopRow
  obtain ⟨c0, c1, hc, hcnone, hcsome⟩ := stopBytes_spec hstopCol
  have hi := i.isLt
  have hstate := plateStateCode_le p.state
  have hfadePhase : p.fadePhase ≤ 14 := by
    rcases Nat.eq_zero_or_pos p.fadeStep with e | e
    · rw [hzero e]; omega
    · have := hphase (by omega); omega
  have hheld := p.held.toNat_le
  have hslew := p.holdInSlew.toNat_le
  have hstop := p.closeAtStop.toNat_le
  have hshown := p.notify.shown.toNat_le
  have hclosed := p.notify.closed.toNat_le
  have hstopped := p.notify.stopped.toNat_le
  have hkey : keyModeCode p.keyMode ≤ 1 := by cases p.keyMode <;> decide
  have hstart : startCode p.start ≤ 2 := by cases p.start <;> simp [startCode]
  have hpresent := (startPresent p.start).toNat_le
  have hnotify : p.mix + 32 * notifyCode p.notify =
      p.mix + 32 * p.notify.shown.toNat + 64 * p.notify.closed.toNat + 128 * p.notify.stopped.toNat := by
    simp only [notifyCode, bitVal_eq]
    omega
  have hlist : plateRecord i f p =
      [byteOf (i.val + 32 * plateStateCode p.state + 128 * p.held.toNat), f0, f1, f2, f3, p.tag,
       byteOf (p.group + 8 * p.layer + 32 * keyModeCode p.keyMode + 64 * p.holdInSlew.toNat + 128 * p.closeAtStop.toNat),
       byteOf (p.mixTarget + 32 * startCode p.start + 128 * (startPresent p.start).toNat),
       byteOf (p.mix + 32 * p.notify.shown.toNat + 64 * p.notify.closed.toNat + 128 * p.notify.stopped.toNat),
       byteOf (p.transIndex.getD 16), byteOf (p.fadeStep + 16 * p.fadePhase), s0, s1, s2, s3, l0, l1, byteOfInt p.rowRate,
       byteOfInt p.colRate, t0, t1, x0, x1, byteOf p.height, byteOf p.width, byteOf (p.height / 256 + 16 * (p.width / 256)),
       r0, r1, c0, c1] := by
    unfold plateRecord
    rw [startBytes_eq, hf, hs, hl, ht, hx, hr, hc, hnotify]
    simp only [bitVal_eq, Nat.reducePow, List.cons_append, List.nil_append]
  rw [hlist]
  refine ⟨rfl, fun st hst => ?_, hfn, rfl, ?_, fun e => ?_, fun g e => ?_, fun e => ?_, numAt_one rfl (by omega), fun e => ?_,
    fun x e => ?_, numAt_one rfl (by omega), hln, byteOfInt_toInt (by omega) (by omega), byteOfInt_toInt (by omega) (by omega),
    htn, hxn, ?_, ?_, numAt_one rfl (by omega), ⟨hrnone, hrsome⟩, hcnone, hcsome⟩
  · rw [plateStateCode_of_mem hst]
    exact numAt_one rfl (by omega)
  · rw [← keyModeCode_eq]
    exact numAt_one rfl (by omega)
  · rw [e] at hsn ⊢
    exact ⟨numAt_one rfl (by omega), hsn⟩
  · rw [e] at hsn ⊢
    exact ⟨numAt_one rfl (by omega), hsn⟩
  · rw [e] at hsn ⊢
    exact ⟨numAt_one rfl (by omega), hsn⟩
  · rw [e]; exact numAt_one rfl (by decide)
  · rw [e]; exact numAt_one rfl (Nat.le_trans (htrans x e) (by decide))
  · simp [numAt, byteOf]
  · simp [numAt, byteOf]

end Sys2Proof.Machine
end

section
/-! PROOFS. QUERY, PROBE and LIST (01 R23 to R29). -/

namespace Sys2Proof.Machine

/-! ## QUERY (01 R23, R24) -/

/-- Which amendments name a tag (01 R24). -/
theorem names?_iff (op : AmendOp) (t : Byte) : op.names? = some t ↔ Names op t := by
  cases op <;> simp [AmendOp.names?, Names]

theorem answerQuery_live {s : State} (h : TableLaws s.table.slots) {i : Slot} {p : Plate} (hp : slotAt s.table.slots i = some p) :
    answerQuery p.tag s =
      reply s replyData (plateRecord i s.clock.counter p ++ [byteOf (queuedNaming s.table.queue p.tag)]) := by
  simp [answerQuery, findTag_eq_some h hp, hp]

theorem answerQuery_notFound {s : State} {t : Byte} (h : ¬ TagLive s.table.slots t) :
    answerQuery t s = reply s replyNotFound [byteOf (queuedNaming s.table.queue t)] := by
  simp [answerQuery, (findTag_eq_none _ _).mpr h]

/-- A ready QUERY of a tag in range is answered from the table. -/
theorem execQuery_ready {s : State} {t : Byte} {rest : List Byte} (h0 : t ≠ 0) (h255 : t ≠ 255)
    (h : RequestReady s 0x28#8 33 [t] rest) :
    exec .query s = .next (answerQuery t (s.withPort { s.port with requests := rest })) := by
  have hok : tagOk (opByte [t] 0) = true := (tagOk_iff t).mpr ⟨h0, h255⟩
  show Host.Outcome.next (withRequest reqQuery query s) = _
  rw [withRequest_ready reqQuery query h (by simp) (by simp [reqQuery]), query, hok]
  rfl

/-- Settles O21: the tagged plate is the one found, and the record's bytes are those of its rule. -/
theorem queryReportsTheTaggedPlate : Obligations.QueryReportsTheTaggedPlate := by
  refine ⟨fun s t rest h0 h255 hready => ⟨?_, fun hn => ?_⟩, fun i f p hp => plateRecord_recordOf i f hp, names?_iff⟩
  · rintro i p hlaws hp rfl
    exact (execQuery_ready h0 h255 hready).trans
      (congrArg Host.Outcome.next (answerQuery_live (s := s.withPort { s.port with requests := rest }) hlaws hp))
  · exact (execQuery_ready h0 h255 hready).trans
      (congrArg Host.Outcome.next (answerQuery_notFound (s := s.withPort { s.port with requests := rest }) hn))

/-! ## PROBE (01 R25) -/

theorem VisPlate.coversAt_iff (v : VisPlate) (r c : Int) :
    v.coversAt r c = true ↔ v.top ≤ r ∧ r ≤ v.top + v.height - 1 ∧ v.left ≤ c ∧ c ≤ v.left + v.width - 1 := by
  simp only [VisPlate.coversAt, Bool.and_eq_true, decide_eq_true_eq, and_assoc]

theorem highestPlate_eq_none {vs : List VisPlate} (h : highestPlate vs = none) : vs = [] := by
  cases vs with
  | nil => rfl
  | cons v vs =>
    unfold highestPlate at h
    split at h
    · cases h
    · split at h <;> cases h

/-- The entry of the highest layer is an entry that no other exceeds (01 R25). -/
theorem highestPlate_some {vs : List VisPlate} {w : VisPlate} (h : highestPlate vs = some w) :
    w ∈ vs ∧ ∀ v ∈ vs, v.layer ≤ w.layer := by
  induction vs generalizing w with
  | nil => cases h
  | cons v vs ih =>
    unfold highestPlate at h
    split at h
    · rename_i hnone
      cases h
      rw [highestPlate_eq_none hnone]
      simp
    · rename_i u hu
      obtain ⟨hmem, hmax⟩ := ih hu
      split at h <;> cases h
      · rename_i hle
        refine ⟨List.mem_cons_self, fun x hx => ?_⟩
        rcases List.mem_cons.mp hx with rfl | hx
        · exact Nat.le_refl _
        · exact Nat.le_trans (hmax x hx) hle
      · rename_i hlt
        refine ⟨List.mem_cons_of_mem _ hmem, fun x hx => ?_⟩
        rcases List.mem_cons.mp hx with rfl | hx
        · exact Nat.le_of_not_le hlt
        · exact hmax x hx

/-- An entry whose layer every other entry stays below is the one that is found. -/
theorem highestPlate_eq {vs : List VisPlate} {v : VisPlate} (hv : v ∈ vs) (h : ∀ w ∈ vs, w ≠ v → w.layer < v.layer) :
    highestPlate vs = some v := by
  cases e : highestPlate vs with
  | none => rw [highestPlate_eq_none e] at hv; cases hv
  | some w =>
    obtain ⟨hw, hmax⟩ := highestPlate_some e
    by_contra hne
    have hlt := h w hw fun hwv => hne (congrArg some hwv)
    exact absurd (hmax v hv) (Nat.not_le.mpr hlt)

/-- The answer of a PROBE at a position that no entry covers, and at one with a highest covering entry (01 R25). -/
theorem answerProbe_notFound {r c : Nat} {s : State} (h : ∀ v ∈ s.keyer.visible, ¬ v.coversAt r c = true) :
    answerProbe r c s = reply s replyNotFound [] := by
  have hnone : coveringPlates s.keyer.visible r c = [] := List.filter_eq_nil_iff.mpr h
  simp [answerProbe, hnone, highestPlate]

theorem answerProbe_found {r c : Nat} {s : State} {v : VisPlate} (hv : v ∈ s.keyer.visible) (hc : v.coversAt r c = true)
    (h : ∀ w ∈ s.keyer.visible, w ≠ v → w.coversAt r c = true → w.layer < v.layer) :
    answerProbe r c s = reply s replyData [v.tag, byteOf (coveringPlates s.keyer.visible r c).length] := by
  have htop : highestPlate (coveringPlates s.keyer.visible r c) = some v :=
    highestPlate_eq (List.mem_filter.mpr ⟨hv, hc⟩) fun w hw hne =>
      h w (List.mem_filter.mp hw).1 hne (List.mem_filter.mp hw).2
  simp [answerProbe, htop]

/-- A ready PROBE of a position on the picture is answered from the visible set. -/
theorem execProbe_ready {s : State} {r0 r1 c0 c1 : Byte} {rest : List Byte} {row col : Nat} (hrow : row = (r1 ++ r0).toNat)
    (hcol : col = (c1 ++ c0).toNat) (hr : row < pictureRows s.raster.std) (hc : col < s.raster.width)
    (h : RequestReady s 0x29#8 4 [r0, r1, c0, c1] rest) :
    exec .probe s = .next (answerProbe row col (s.withPort { s.port with requests := rest })) := by
  have hop0 : op16 [r0, r1, c0, c1] 0 = row := (hrow.trans (append_toNat r1 r0)).symm
  have hop2 : op16 [r0, r1, c0, c1] 2 = col := (hcol.trans (append_toNat c1 c0)).symm
  show Host.Outcome.next (withRequest reqProbe probe s) = _
  rw [withRequest_ready reqProbe probe h (by simp) (by simp [reqProbe]), probe, hop0, hop2]
  simp [hr, hc]

/-- Settles O22: the entry of a layer above every other covering entry's is the one that highestPlate finds. -/
theorem probeReportsTheHighestCoveringPlate : Obligations.ProbeReportsTheHighestCoveringPlate := by
  refine ⟨fun v row col => v.coversAt_iff row col, ?_⟩
  intro s r0 r1 c0 c1 rest row col hrow hcol hr hc hready
  have hpicture : row < pictureRows s.raster.std := by
    revert hr; cases s.raster.std <;> exact id
  have hexec := execProbe_ready hrow hcol hpicture hc hready
  constructor
  · intro hnone
    exact hexec.trans (congrArg Host.Outcome.next
      (answerProbe_notFound (s := s.withPort { s.port with requests := rest }) fun v hv h => hnone v hv ((v.coversAt_iff _ _).mp h)))
  · intro v hv hcov hhigh
    exact hexec.trans (congrArg Host.Outcome.next
      (answerProbe_found (s := s.withPort { s.port with requests := rest }) hv ((v.coversAt_iff _ _).mpr hcov) hhigh))

/-! ## LIST (01 R26 to R29) -/

/-- The plates a LIST passes on are those that the statement names (01 R26). -/
theorem ListJob.wants_iff (j : ListJob) (p : Plate) : j.wants p = true ↔ ListMatches j p := by
  unfold ListJob.wants ListMatches
  cases p.state <;> simp [and_comm]

theorem room_iff (p : Port) {n : Nat} (hn : 1 ≤ n) : n ≤ p.room ↔ p.replies.length + n ≤ 64 := by
  simp only [Port.room, Config.replyFifoSize]; omega

/-- An examination of a LIST that is not suspended takes the slot at its cursor (01 R27). -/
theorem stepList_examines {s : State} {j : ListJob} {i : Slot} (hj : s.port.job = .list j) (hi : j.cursor = i.val)
    (hs : j.suspended = false) : stepList s = examineSlot j i s := by
  have hlt : j.cursor < 32 := hi ▸ i.isLt
  have hslot : (⟨j.cursor, hlt⟩ : Slot) = i := Fin.ext hi
  simp [stepList, hj, hlt, hs, hslot]

theorem examineSlot_passes {s : State} {j : ListJob} {i : Slot} (h : ∀ p, slotAt s.table.slots i = some p → ¬ ListMatches j p) :
    examineSlot j i s = s.withPort { s.port with job := .list { j with cursor := j.cursor + 1 } } := by
  have hnone : j.match? s.table.slots i = none :=
    Option.filter_eq_none_iff.mpr fun p hp hw => h p hp ((j.wants_iff p).mp hw)
  simp [examineSlot, hnone]

theorem match?_some {j : ListJob} {ts : Slots} {i : Slot} {p : Plate} (hp : slotAt ts i = some p) (hm : ListMatches j p) :
    j.match? ts i = some p := Option.filter_eq_some_iff.mpr ⟨hp, (j.wants_iff p).mpr hm⟩

theorem examineSlot_writes {s : State} {j : ListJob} {i : Slot} {p : Plate} (hp : slotAt s.table.slots i = some p)
    (hm : ListMatches j p) (hroom : s.port.replies.length + 32 ≤ 64) :
    examineSlot j i s = reply (s.withPort { s.port with job := .list { j with cursor := j.cursor + 1, items := j.items + 1 } })
      replyListItem (plateRecord i s.clock.counter p) := by
  simp [examineSlot, match?_some hp hm, (room_iff s.port (n := 32) (by decide)).mpr hroom]

theorem examineSlot_suspends {s : State} {j : ListJob} {i : Slot} {p : Plate} (hp : slotAt s.table.slots i = some p)
    (hm : ListMatches j p) (hroom : 64 < s.port.replies.length + 32) :
    examineSlot j i s = s.withPort { s.port with job := .list { j with suspended := true } } := by
  have hno : ¬ 32 ≤ s.port.room := fun h => absurd ((room_iff s.port (by decide)).mp h) (Nat.not_le.mpr hroom)
  simp [examineSlot, match?_some hp hm, hno]

theorem resumeList_resumes {s : State} {j : ListJob} (hj : s.port.job = .list j) (hs : j.suspended = true)
    (hroom : s.port.replies.length + 32 ≤ 64) :
    resumeList s = s.withPort { s.port with job := .list { j with suspended := false } } := by
  simp [resumeList, hj, hs, (room_iff s.port (n := 32) (by decide)).mpr hroom]

theorem endList_ends {s : State} {j : ListJob} (hj : s.port.job = .list j) (hc : j.cursor = 32)
    (hroom : s.port.replies.length + 7 ≤ 64) :
    endList s = reply (s.withPort { s.port with job := .idle }) replyListEnd (byteOf j.items :: le32 s.clock.counter) := by
  simp [endList, hj, hc, (room_iff s.port (n := 7) (by decide)).mpr hroom]

/-- A ready LIST of a state set in range begins (01 R26). -/
theorem execList_ready {s : State} {a g : Byte} {rest : List Byte} (ha : a.toNat < 8) (h : RequestReady s 0x2A#8 2 [a, g] rest) :
    exec .list s = .next (s.withPort { s.port with requests := rest, job := .list (listOf [a, g]) }) := by
  have hop : op8 [a, g] 0 < 8 := ha
  show Host.Outcome.next (withRequest reqList beginList s) = _
  rw [withRequest_ready reqList beginList h (by simp) (by simp [reqList]), beginList, decide_eq_true hop]
  rfl

/-- Settles O23: each step of the walk by its lemma. -/
theorem listWalksTheSlots : Obligations.ListWalksTheSlots := by
  refine ⟨fun s a g rest ha h => execList_ready ha h, fun s j hj => ⟨fun i hi hs => ⟨fun hp => ?_, fun p hp hm => ⟨?_, ?_⟩⟩, ?_, ?_⟩⟩
  · exact congrArg Host.Outcome.next ((stepList_examines hj hi hs).trans (examineSlot_passes hp))
  · intro hroom
    refine congrArg Host.Outcome.next ((stepList_examines hj hi hs).trans ((examineSlot_writes hp hm hroom).trans ?_))
    unfold reply
    rw [plateRecord_length]
    rfl
  · exact fun hroom => congrArg Host.Outcome.next ((stepList_examines hj hi hs).trans (examineSlot_suspends hp hm hroom))
  · exact fun hs hroom => congrArg Host.Outcome.next (resumeList_resumes hj hs hroom)
  · exact fun hc hroom => congrArg Host.Outcome.next (endList_ends hj hc hroom)

end Sys2Proof.Machine
end

section
/-! PROOFS. The posting requests: QUEUED with one amendment, QUEUE FULL, SCENE EMPTY (01 R16; 02 R33 to R35; 05 R111). -/

namespace Sys2Proof.Machine

/-- The amendment that a posting request other than RECALL SCENE posts for its operand bytes (02 R33). -/
def postedOp (ops : List Byte) : Instr → Option AmendOp
  | .place => some (.place (placeSlot ops) (placeFields ops))
  | .amend => some (.amend (opByte ops 0) (amendFields ops))
  | .showPlate => some (.showPlate (opByte ops 0))
  | .close => some (.close (opByte ops 0))
  | .drop => some (.drop (opByte ops 0))
  | .groupClose => some (.groupClose (op8 ops 0))
  | .groupMove => some (.groupMove (op8 ops 0) (sop8 ops 1) (sop8 ops 2))
  | .setPinned => some (.setPinned (op8 ops 0))
  | _ => none

/-- A posting request runs through withRequest with its row, of largest reply 3 and at most 30 operand bytes; operands that pass check 3
are posted (02 R33, R34). -/
theorem posting_exec {i : Instr} {r : ReqInfo} {ops : List Byte} {op : AmendOp} (hr : requestOf i = some r)
    (hop : postedOp ops i = some op) :
    ∃ k, (∀ s, exec i s = .next (withRequest r k s)) ∧ r.largest = 3 ∧ (∀ n ∈ r.lengths, n ≤ 30) ∧
      ∀ s t, operandsOk s ops i = true → k ops t = postRequest op t := by
  have accepted : ∀ {ok : Bool} {k : State → State} (t : State), ok = true → withOperands ok k t = k t :=
    fun t h => by rw [h]; rfl
  cases i <;> cases hop <;> cases hr
  case place => exact ⟨postPlace, fun _ => rfl, rfl, by decide, fun _ t h => accepted t h⟩
  case amend => exact ⟨postAmend, fun _ => rfl, rfl, by decide, fun _ t h => accepted t h⟩
  case showPlate => exact ⟨postTag .showPlate, fun _ => rfl, rfl, by decide, fun _ t h => accepted t h⟩
  case close => exact ⟨postTag .close, fun _ => rfl, rfl, by decide, fun _ t h => accepted t h⟩
  case drop => exact ⟨postTag .drop, fun _ => rfl, rfl, by decide, fun _ t h => accepted t h⟩
  case groupClose => exact ⟨postGroupClose, fun _ => rfl, rfl, by decide, fun _ t h => accepted t h⟩
  case groupMove => exact ⟨postGroupMove, fun _ => rfl, rfl, by decide, fun _ t h => accepted t h⟩
  case setPinned => exact ⟨postSetPinned, fun _ => rfl, rfl, by decide, fun _ t h => accepted t h⟩

/-- A ready posting request whose operands pass their check hands its amendment to the queue (02 R33). -/
theorem exec_posting {i : Instr} {r : ReqInfo} {s : State} {ops rest : List Byte} {op : AmendOp} (hr : requestOf i = some r)
    (hop : postedOp ops i = some op) (hl : ops.length ∈ r.lengths) (hok : operandsOk s ops i = true)
    (h : RequestReady s r.code 3 ops rest) :
    exec i s = .next (postRequest op (s.withPort { s.port with requests := rest })) := by
  obtain ⟨k, hexec, hlargest, h30, hk⟩ := posting_exec hr hop
  rw [hexec, withRequest_ready r k (hlargest ▸ h) (h30 _ hl) hl, hk s _ hok]

/-- A ready RECALL SCENE of scene c goes on to the scene's validity (05 R111). -/
theorem execRecallScene_ready {s : State} {n : Byte} {c : SceneNo} {rest : List Byte} (hn : n.toNat = c.val)
    (h : RequestReady s 0x51#8 3 [n] rest) :
    exec .recallScene s = .next
      (if (s.scenes.get c).valid then postRequest (.recall c) (s.withPort { s.port with requests := rest })
       else answered s rest 0x86#8 []) := by
  have hscene : sceneOf [n] = c := Fin.ext ((congrArg (· % 4) hn).trans (Nat.mod_eq_of_lt c.isLt))
  have hok : sceneOk [n] = true := decide_eq_true (show n.toNat ≤ 3 by have := c.isLt; omega)
  show Host.Outcome.next (withRequest reqRecallScene recallScene s) = _
  rw [withRequest_ready reqRecallScene recallScene h (by simp) (by simp [reqRecallScene]), recallScene, hok, hscene]
  rfl

/-- With room the amendment joins the queue's end and the reply is QUEUED with the new depth (02 R33). -/
theorem postRequest_queued {s : State} (hroom : s.table.queue.length < 16) (rest : List Byte) (op : AmendOp) :
    postRequest op (s.withPort { s.port with requests := rest }) = queued s rest op := by
  unfold postRequest
  rw [State.withPort_table, if_pos ((s.table.hasRoom_iff).mpr hroom)]
  rfl

/-- Without room the reply is QUEUE FULL and nothing is posted (02 R33). -/
theorem postRequest_full {s : State} (hfull : 16 ≤ s.table.queue.length) (rest : List Byte) (op : AmendOp) :
    postRequest op (s.withPort { s.port with requests := rest }) = answered s rest 0x83#8 [] := by
  unfold postRequest
  rw [State.withPort_table, if_neg fun h => absurd ((s.table.hasRoom_iff).mp h) (Nat.not_lt.mpr hfull)]
  rfl

/-- A ready posting request with operands in range finds room: QUEUED (02 R33). -/
theorem exec_posting_queued {i : Instr} {r : ReqInfo} {s : State} {ops rest : List Byte} {op : AmendOp}
    (hroom : s.table.queue.length < 16) (hr : requestOf i = some r) (hop : postedOp ops i = some op)
    (hl : ops.length ∈ r.lengths) (hok : operandsOk s ops i = true) (h : RequestReady s r.code 3 ops rest) :
    exec i s = .next (queued s rest op) := by
  rw [exec_posting hr hop hl hok h, postRequest_queued hroom]

/-- Settles O17: each posting request by its row, RECALL SCENE after its scene is found valid. -/
theorem postingRequestsQueueOneAmendment : Obligations.PostingRequestsQueueOneAmendment := by
  intro s rest hroom
  have one : ∀ b : Byte, [b].length ∈ [1] := fun _ => List.mem_singleton.mpr rfl
  refine ⟨fun ops hl hok h => ?_, fun ops hl hok h => ?_, fun t h0 h255 => ?_, fun g hg => ⟨fun h => ?_, fun r c h => ?_⟩,
    fun p hp h => ?_, fun n c hn hvalid h => ?_⟩
  · exact exec_posting_queued hroom (i := .place) rfl rfl (List.mem_singleton.mpr hl) hok h
  · exact exec_posting_queued hroom (i := .amend) rfl rfl (List.mem_singleton.mpr hl) hok h
  · have htag : tagOk t = true := (tagOk_iff t).mpr ⟨h0, h255⟩
    exact ⟨fun h => exec_posting_queued hroom (i := .showPlate) rfl rfl (one t) htag h,
      fun h => exec_posting_queued hroom (i := .close) rfl rfl (one t) htag h,
      fun h => exec_posting_queued hroom (i := .drop) rfl rfl (one t) htag h⟩
  · exact exec_posting_queued hroom (i := .groupClose) rfl rfl (one g) (decide_eq_true hg) h
  · exact exec_posting_queued hroom (i := .groupMove) (ops := [g, r, c]) rfl rfl (List.mem_singleton.mpr rfl) (decide_eq_true hg) h
  · exact exec_posting_queued hroom (i := .setPinned) rfl rfl (one p) (decide_eq_true hp) h
  · rw [execRecallScene_ready hn h, if_pos hvalid, postRequest_queued hroom]

/-- Settles O18: the queue without room answers before anything is posted, an invalid scene before the queue is looked at. -/
theorem postsAreRefusedWithoutRoomOrScene : Obligations.PostsAreRefusedWithoutRoomOrScene := by
  intro s ops rest
  refine ⟨fun i r hi hr hl hok hfull h => ?_, fun n c hn h => ⟨fun hinvalid => ?_, fun hvalid hfull => ?_⟩⟩
  · have hposts : (postedOp ops i).isSome = true := by
      simp only [List.mem_cons, List.not_mem_nil, or_false] at hi
      rcases hi with rfl | rfl | rfl | rfl | rfl | rfl | rfl | rfl <;> rfl
    obtain ⟨op, hop⟩ := Option.isSome_iff_exists.mp hposts
    rw [exec_posting hr hop hl hok h, postRequest_full hfull]
  · rw [execRecallScene_ready hn h, if_neg (Bool.eq_false_iff.mp hinvalid)]
  · rw [execRecallScene_ready hn h, if_pos hvalid, postRequest_full hfull]

end Sys2Proof.Machine
end

section
/-! PROOFS. AMEND, SHOW, CLOSE, DROP and MIX by the plate that carries the tag (02 R42 to R47, R51). -/

namespace Sys2Proof.Machine

/-! ## Reading the statements' words in the model's -/

/-- The record of an AMEND is the one whose selected fields are at their new values (02 R42). -/
theorem AmendedTo.amendHost_eq {sel : FieldSelect} {g h : HostFields} (e : AmendedTo sel g h) : amendHost sel g = h := by
  have taken : ∀ {α : Type} {v : Option α} {old new : α}, Takes v old new → v.getD old = new := by
    intro α v old new ht
    cases v with
    | none => exact (ht.1 rfl).symm
    | some x => exact (ht.2 x rfl).symm
  obtain ⟨htag, hstart, hgroup, hlayer, htop, hleft, hheight, hwidth, hkey, htrans, hmix, hfade, hlife, hrow, hcol, hstopRow, hstopCol,
    hnotify, hslew, hclose⟩ := e
  cases h
  unfold amendHost
  congr 1
  exacts [htag.symm, taken hgroup, taken hlayer, taken htop, taken hleft, taken hheight, taken hwidth, taken hkey, taken htrans,
    taken hmix, taken hfade, hstart.symm, taken hlife, taken hrow, taken hcol, taken hstopRow, taken hstopCol, taken hnotify,
    taken hslew, taken hclose]

/-- The check for overlap of an AMEND leaves the plate's own slot out (02 R42). -/
theorem firstHit_others_isSome (ts : Slots) (i : Slot) (h : HostFields) :
    (firstHit ts (fun j => j == i) h).isSome = true ↔ MeetsLive ts (fun j => j = i) h := by
  rw [firstHit_isSome]; simp only [beq_iff_eq]

/-- An amendment carried out by freeing one slot as a closing (02 R51). -/
theorem applied_closeFree (w : TableWork) (i : Slot) (p : Plate) :
    { w.closeFree i p with applied := (w.closeFree i p).applied + 1 } = carriedClosing w i p := rfl

/-- An amendment carried out by writing one slot. -/
theorem applied_write (w : TableWork) (i : Slot) (v : Option Plate) (ds : List Detail) :
    { w.write i v ds with applied := (w.write i v ds).applied + 1 } = carried w (putSlot w.slots i v) ds := rfl

/-! ## CLOSE by state (02 R45) -/

/-- A CLOSE frees an ARMED plate and a SHOWN one without a fade step. -/
theorem closeSlot_frees {w : TableWork} {i : Slot} {p : Plate} (h : p.state = .armed ∨ (p.state = .shown ∧ p.fadeStep = 0)) :
    closeSlot w i p = w.closeFree i p := by
  unfold closeSlot
  rcases h with h | ⟨h, hf⟩ <;> rw [h]
  exact if_pos hf

/-- A CLOSE turns a SHOWN plate with a fade step CLOSING. -/
theorem closeSlot_fades {w : TableWork} {i : Slot} {p : Plate} (h : p.state = .shown) (hf : p.fadeStep ≠ 0) :
    closeSlot w i p = w.write i (some (closingPlate p)) [] := by
  unfold closeSlot
  rw [h]
  exact if_neg hf

/-- A CLOSE leaves a CLOSING plate. -/
theorem closeSlot_closing {w : TableWork} {i : Slot} {p : Plate} (h : p.state = .closing) : closeSlot w i p = w := by
  unfold closeSlot
  rw [h]

/-! ## Each kind on the plate in slot i -/

section
variable {f : FieldNo} {sc : Scenes} {w : TableWork} {i : Slot} {p : Plate}

theorem amend_closing {sel : FieldSelect} (hl : TableLaws w.slots) (hp : slotAt w.slots i = some p) (hs : p.state = .closing) :
    applyOp f sc w (.amend p.tag sel) = .error .closing :=
  (onTag_some _ hl hp).trans (if_pos hs)

theorem amend_overlap {sel : FieldSelect} {h : HostFields} (hl : TableLaws w.slots) (hp : slotAt w.slots i = some p)
    (hs : p.state ≠ .closing) (ha : amendHost sel p.toHostFields = h) (hm : MeetsLive w.slots (fun j => j = i) h) :
    applyOp f sc w (.amend p.tag sel) = .error .overlap := by
  refine (onTag_some _ hl hp).trans ((if_neg hs).trans (if_pos ?_))
  rw [ha]
  exact (firstHit_others_isSome _ _ _).mpr hm

theorem amend_ok {sel : FieldSelect} {h : HostFields} (hl : TableLaws w.slots) (hp : slotAt w.slots i = some p)
    (hs : p.state ≠ .closing) (ha : amendHost sel p.toHostFields = h) (hm : ¬ MeetsLive w.slots (fun j => j = i) h) :
    applyOp f sc w (.amend p.tag sel) = .ok (w.write i (some (amendPlate sel p)) []) := by
  refine (onTag_some _ hl hp).trans ((if_neg hs).trans (if_neg ?_))
  rw [ha]
  exact fun hit => hm ((firstHit_others_isSome _ _ _).mp hit)

theorem show_notArmed (hl : TableLaws w.slots) (hp : slotAt w.slots i = some p) (hs : p.state ≠ .armed) :
    applyOp f sc w (.showPlate p.tag) = .error .notArmed :=
  (onTag_some _ hl hp).trans (if_neg hs)

theorem show_ok (hl : TableLaws w.slots) (hp : slotAt w.slots i = some p) (hs : p.state = .armed) :
    applyOp f sc w (.showPlate p.tag) =
      .ok (w.write i (some { becomeShown p with new := true }) (shownNotice p.toHostFields)) :=
  (onTag_some _ hl hp).trans (if_pos hs)

theorem close_ok (hl : TableLaws w.slots) (hp : slotAt w.slots i = some p) :
    applyOp f sc w (.close p.tag) = .ok (closeSlot w i p) := onTag_some _ hl hp

theorem drop_ok (hl : TableLaws w.slots) (hp : slotAt w.slots i = some p) :
    applyOp f sc w (.drop p.tag) = .ok (w.closeFree i p) := onTag_some _ hl hp

theorem mix_closing {level : Nat} (hl : TableLaws w.slots) (hp : slotAt w.slots i = some p) (hs : p.state = .closing) :
    applyOp f sc w (.mix p.tag level) = .error .closing :=
  (onTag_some _ hl hp).trans (if_pos hs)

theorem mix_ok {level : Nat} (hl : TableLaws w.slots) (hp : slotAt w.slots i = some p) (hs : p.state ≠ .closing) :
    applyOp f sc w (.mix p.tag level) = .ok (w.write i (some { p with mixTarget := level }) []) :=
  (onTag_some _ hl hp).trans (if_neg hs)

end

/-- Settles O42: without a live plate of the tag no kind acts; with one, each kind by its lemma on that plate. -/
theorem tagAmendmentsActOnTheTaggedPlate : Obligations.TagAmendmentsActOnTheTaggedPlate := by
  rintro f sc w o tag sel level am sh cl dr mx rfl rfl rfl rfl rfl
  refine ⟨fun hno a ha => applyAmendment_error ?_, ?_⟩
  · simp only [List.mem_cons, List.not_mem_nil, or_false] at ha
    rcases ha with rfl | rfl | rfl | rfl | rfl <;> exact onTag_none _ hno
  rintro i p h hl hp rfl hamended
  have ha := hamended.amendHost_eq
  refine ⟨fun hs => applyAmendment_error (amend_closing hl hp hs),
    fun hs hm => applyAmendment_error (amend_overlap hl hp hs ha hm), fun hs hm => ?_,
    fun hs => applyAmendment_error (show_notArmed hl hp hs), fun hs => ?_, fun hs => ?_, fun hs hf => ?_, fun hs => ?_, ?_,
    fun hs => applyAmendment_error (mix_closing hl hp hs), fun hs => ?_⟩
  · rw [applyAmendment_ok (amend_ok hl hp hs ha hm), applied_write, amendPlate, ha]
  · rw [applyAmendment_ok (show_ok hl hp hs), applied_write]
    rfl
  · rw [applyAmendment_ok (close_ok hl hp), closeSlot_frees hs, applied_closeFree]
  · rw [applyAmendment_ok (close_ok hl hp), closeSlot_fades hs hf, applied_write]
    rfl
  · rw [applyAmendment_ok (close_ok hl hp), closeSlot_closing hs, carried, List.append_nil]
  · rw [applyAmendment_ok (drop_ok hl hp), applied_closeFree]
  · rw [applyAmendment_ok (mix_ok hl hp hs), applied_write]

end Sys2Proof.Machine
end

section
/-! PROOFS. GROUP CLOSE, GROUP MOVE and SET PINNED (01 R11, R16; 02 R48, R49). -/

namespace Sys2Proof.Machine

/-! ## Members (01 R11) -/

theorem isMember_iff (w : TableWork) (g : Nat) (i : Slot) : isMember w.slots w.pinned g i = true ↔ ∃ p, MemberAt w g i p := by
  simp only [isMember, Bool.and_eq_true, decide_eq_true_eq, Option.any_eq_true, beq_iff_eq, MemberAt]
  exact ⟨fun ⟨hp, p, h, hg⟩ => ⟨p, hp, h, hg⟩, fun ⟨p, hp, h, hg⟩ => ⟨hp, p, h, hg⟩⟩

theorem isMember_of {w : TableWork} {g : Nat} {i : Slot} {p : Plate} (h : MemberAt w g i p) :
    isMember w.slots w.pinned g i = true := (isMember_iff w g i).mpr ⟨p, h⟩

/-! ## GROUP CLOSE (02 R48) -/

/-- A CLOSE frees the plate (02 R45). -/
def closeFrees (p : Plate) : Bool := decide (p.state = .armed) || (decide (p.state = .shown) && decide (p.fadeStep = 0))

theorem closeFrees_iff (p : Plate) : closeFrees p = true ↔ p.state = .armed ∨ (p.state = .shown ∧ p.fadeStep = 0) := by
  simp [closeFrees]

/-- What a CLOSE leaves of a plate (02 R45). -/
def afterClose (p : Plate) : Option Plate :=
  if closeFrees p then none else if p.state = .shown then some (closingPlate p) else some p

/-- The slot holds a member that a CLOSE frees. -/
def freedByClose (w : TableWork) (g : Nat) (i : Slot) : Bool :=
  isMember w.slots w.pinned g i && (slotAt w.slots i).any closeFrees

theorem freedByClose_iff (w : TableWork) (g : Nat) (i : Slot) :
    freedByClose w g i = true ↔ ∃ p, MemberAt w g i p ∧ (p.state = .armed ∨ (p.state = .shown ∧ p.fadeStep = 0)) := by
  simp only [freedByClose, Bool.and_eq_true, isMember_iff, Option.any_eq_true, closeFrees_iff]
  constructor
  · rintro ⟨⟨q, hq⟩, p, hp, hc⟩
    exact ⟨p, ⟨hq.1, hp, Option.some.inj (hq.2.1.symm.trans hp) ▸ hq.2.2⟩, hc⟩
  · rintro ⟨p, hm, hc⟩
    exact ⟨⟨p, hm⟩, p, hm.2.1, hc⟩

/-- The occurrences of the closing of slot i. -/
def closedNoticeAt (ts : Slots) (i : Slot) : List Detail := ((slotAt ts i).map fun p => closedNotice p.toHostFields).getD []

/-- The work after the members of the group in the slots of l have been closed (02 R48). -/
def membersClosed (w : TableWork) (g : Nat) (l : List Slot) : TableWork :=
  { w with
    slots := mapSlots (fun i v => if i ∈ l ∧ isMember w.slots w.pinned g i = true then v.bind afterClose else v) w.slots
    notices := w.notices ++ (l.filter (freedByClose w g)).flatMap (closedNoticeAt w.slots)
    closings := w.closings + (l.filter (freedByClose w g)).length }

theorem slotAt_membersClosed (w : TableWork) (g : Nat) (l : List Slot) (i : Slot) :
    slotAt (membersClosed w g l).slots i =
      if i ∈ l ∧ isMember w.slots w.pinned g i = true then (slotAt w.slots i).bind afterClose else slotAt w.slots i :=
  slotAt_mapSlots _ _ _

/-- Works with these parts, and the rest as in w, are equal when the parts are. -/
theorem membersClosed_eq {w : TableWork} {g : Nat} {l : List Slot} {ts : Slots} {ds : List Detail} {n : Nat}
    (hs : (membersClosed w g l).slots = ts) (hd : (membersClosed w g l).notices = ds) (hn : (membersClosed w g l).closings = n) :
    membersClosed w g l = { w with slots := ts, notices := ds, closings := n } := by
  subst hs hd hn
  rfl

theorem membersClosed_nil (w : TableWork) (g : Nat) : membersClosed w g [] = w :=
  membersClosed_eq (slots_ext fun i => by simp [slotAt_membersClosed]) (by simp [membersClosed]) (by simp [membersClosed])

/-- The table after one more slot: that slot as its CLOSE leaves it, every other as before. -/
theorem slots_membersClosed_concat (w : TableWork) (g : Nat) (l : List Slot) (i : Slot) :
    (membersClosed w g (l ++ [i])).slots = putSlot (membersClosed w g l).slots i
      (if isMember w.slots w.pinned g i = true then (slotAt w.slots i).bind afterClose else slotAt w.slots i) := by
  refine slots_ext fun j => ?_
  rw [slotAt_putSlot, slotAt_membersClosed, slotAt_membersClosed]
  by_cases hj : j = i
  · subst hj; simp
  · simp [hj]

/-- One more slot that is not freed: the slot alone is written. -/
theorem membersClosed_concat_kept {w : TableWork} {g : Nat} {i : Slot} {v : Option Plate} (l : List Slot)
    (hf : freedByClose w g i = false)
    (hv : (if isMember w.slots w.pinned g i = true then (slotAt w.slots i).bind afterClose else slotAt w.slots i) = v) :
    membersClosed w g (l ++ [i]) = { membersClosed w g l with slots := putSlot (membersClosed w g l).slots i v } :=
  membersClosed_eq (hv ▸ slots_membersClosed_concat w g l i) (by simp [membersClosed, hf]) (by simp [membersClosed, hf])

/-- One more slot that is freed: its plate is a closing. -/
theorem membersClosed_concat_freed {w : TableWork} {g : Nat} {i : Slot} {p : Plate} (l : List Slot) (hm : MemberAt w g i p)
    (hc : closeFrees p = true) : membersClosed w g (l ++ [i]) = (membersClosed w g l).closeFree i p := by
  have hp := hm.2.1
  have hf : freedByClose w g i = true := by simp [freedByClose, isMember_of hm, hp, hc]
  refine membersClosed_eq ((slots_membersClosed_concat w g l i).trans ?_) ?_ ?_
  · rw [if_pos (isMember_of hm), hp, Option.bind_some, afterClose, if_pos hc]
  · simp [membersClosed, hf, closedNoticeAt, hp]
  · simp [membersClosed, hf, Nat.add_assoc]

/-- Writing back what a slot holds leaves the table. -/
theorem putSlot_self {ts : Slots} {i : Slot} {v : Option Plate} (h : slotAt ts i = v) : putSlot ts i v = ts := by
  refine slots_ext fun j => ?_
  rw [slotAt_putSlot]
  split
  · rename_i hj; rw [hj, h]
  · rfl

theorem groupCloseSlot_member {u : TableWork} {g : Nat} {i : Slot} {p : Plate} (h : MemberAt u g i p) :
    groupCloseSlot g u i = closeSlot u i p := by
  obtain ⟨hpin, hp, hg⟩ := h
  simp [groupCloseSlot, hp, hpin, hg]

theorem groupCloseSlot_other {u : TableWork} {g : Nat} {i : Slot} (h : ∀ p, ¬ MemberAt u g i p) :
    groupCloseSlot g u i = u := by
  unfold groupCloseSlot
  split
  · rfl
  · rename_i p hp
    refine if_neg fun hc => h p ?_
    simp only [Bool.and_eq_true, decide_eq_true_eq, beq_iff_eq] at hc
    exact ⟨hc.1, hp, hc.2⟩

/-- Closing one more slot, not among those closed, is one more step of GROUP CLOSE (02 R48). -/
theorem groupCloseSlot_membersClosed (w : TableWork) (g : Nat) {l : List Slot} {i : Slot} (hi : i ∉ l) :
    groupCloseSlot g (membersClosed w g l) i = membersClosed w g (l ++ [i]) := by
  have hsame : slotAt (membersClosed w g l).slots i = slotAt w.slots i := by simp [slotAt_membersClosed, hi]
  have hmember : ∀ p, MemberAt (membersClosed w g l) g i p ↔ MemberAt w g i p := fun p => by simp only [MemberAt, hsame]; rfl
  by_cases hm : ∃ p, MemberAt w g i p
  · obtain ⟨p, hp⟩ := hm
    rw [groupCloseSlot_member ((hmember p).mpr hp)]
    by_cases hfree : closeFrees p = true
    · rw [closeSlot_frees ((closeFrees_iff p).mp hfree), membersClosed_concat_freed l hp hfree]
    · have hkept : freedByClose w g i = false := by simp [freedByClose, hp.2.1, hfree]
      have hv : (if isMember w.slots w.pinned g i = true then (slotAt w.slots i).bind afterClose else slotAt w.slots i) =
          if p.state = .shown then some (closingPlate p) else some p := by
        rw [if_pos (isMember_of hp), hp.2.1, Option.bind_some, afterClose, if_neg hfree]
      rw [membersClosed_concat_kept l hkept hv]
      rw [closeFrees_iff] at hfree
      cases hs : p.state with
      | armed => exact absurd (.inl hs) hfree
      | shown =>
        rw [closeSlot_fades hs fun hf => hfree (.inr ⟨hs, hf⟩), if_pos rfl, TableWork.write, List.append_nil]
      | closing =>
        rw [closeSlot_closing hs, if_neg (by decide), putSlot_self (hsame.trans hp.2.1)]
  · have hno : ∀ p, ¬ MemberAt w g i p := fun p hp => hm ⟨p, hp⟩
    have hnot : isMember w.slots w.pinned g i = false := Bool.eq_false_iff.mpr fun h => hm ((isMember_iff w g i).mp h)
    have hkept : freedByClose w g i = false := by simp [freedByClose, hnot]
    rw [groupCloseSlot_other fun p hp => hno p ((hmember p).mp hp), membersClosed_concat_kept l hkept rfl, hnot,
      if_neg Bool.false_ne_true, putSlot_self hsame]

/-- GROUP CLOSE closes every member, in ascending slot order (02 R48). -/
theorem applyGroupClose_eq (w : TableWork) (g : Nat) : applyGroupClose w g = membersClosed w g allSlots := by
  have hfold : ∀ l : List Slot, l.Nodup → l.foldl (groupCloseSlot g) w = membersClosed w g l := by
    intro l
    induction l using List.reverseRecOn with
    | nil => exact fun _ => (membersClosed_nil w g).symm
    | append_singleton l i ih =>
      intro hl
      obtain ⟨hl, -, hdisjoint⟩ := List.nodup_append.mp hl
      have hi : i ∉ l := fun h => hdisjoint i h i (List.mem_singleton.mpr rfl) rfl
      rw [List.foldl_concat, ih hl, groupCloseSlot_membersClosed w g hi]
  exact hfold allSlots (List.nodup_finRange 32)

/-- What a slot holds after a GROUP CLOSE. -/
theorem slotAt_applyGroupClose (w : TableWork) (g : Nat) (i : Slot) :
    slotAt (applyGroupClose w g).slots i =
      if isMember w.slots w.pinned g i = true then (slotAt w.slots i).bind afterClose else slotAt w.slots i := by
  simp [applyGroupClose_eq, slotAt_membersClosed, mem_allSlots]

/-! ## GROUP MOVE (02 R49) -/

section
variable {f : FieldNo} {sc : Scenes} {w : TableWork} {g : Nat} {r c : Int}

/-- Check 1 of 02 R49. -/
theorem any_moveOutOfRange (w : TableWork) (g : Nat) (r c : Int) :
    allSlots.any (moveOutOfRange w.slots w.pinned g r c) = true ↔
      ∃ i p, MemberAt w g i p ∧ ¬ (-1024 ≤ p.top + r ∧ p.top + r ≤ 2047 ∧ -1024 ≤ p.left + c ∧ p.left + c ≤ 2047) := by
  have hcoord : ∀ p : Plate, (!(coordOk (p.top + r) && coordOk (p.left + c))) = true ↔
      ¬ (-1024 ≤ p.top + r ∧ p.top + r ≤ 2047 ∧ -1024 ≤ p.left + c ∧ p.left + c ≤ 2047) := fun p => by
    rw [Bool.not_eq_true', ← Bool.not_eq_true, Bool.and_eq_true, coordOk_iff, coordOk_iff, and_assoc]
  simp only [List.any_eq_true, moveOutOfRange, Bool.and_eq_true, isMember_iff, Option.any_eq_true, hcoord]
  constructor
  · rintro ⟨i, -, ⟨q, hq⟩, p, hp, hout⟩
    exact ⟨i, p, Option.some.inj (hq.2.1.symm.trans hp) ▸ hq, hout⟩
  · rintro ⟨i, p, hm, hout⟩
    exact ⟨i, mem_allSlots i, ⟨p, hm⟩, p, hm.2.1, hout⟩

/-- Check 2 of 02 R49. -/
theorem any_moveOverlaps (w : TableWork) (g : Nat) (r c : Int) :
    allSlots.any (moveOverlaps w.slots w.pinned g r c) = true ↔
      ∃ i p, MemberAt w g i p ∧
        MeetsLive w.slots (fun j => ∃ q, MemberAt w g j q) { p.toHostFields with top := p.top + r, left := p.left + c } := by
  simp only [List.any_eq_true, moveOverlaps, Bool.and_eq_true, Option.any_eq_true, firstHit_isSome, isMember_iff]
  constructor
  · rintro ⟨i, -, ⟨q, hq⟩, p, hp, hmeets⟩
    exact ⟨i, p, Option.some.inj (hq.2.1.symm.trans hp) ▸ hq, hmeets⟩
  · rintro ⟨i, p, hm, hmeets⟩
    exact ⟨i, mem_allSlots i, ⟨p, hm⟩, p, hm.2.1, hmeets⟩

theorem groupMove_range (h : allSlots.any (moveOutOfRange w.slots w.pinned g r c) = true) :
    applyOp f sc w (.groupMove g r c) = .error .range := if_pos h

theorem groupMove_overlap (h : ¬ allSlots.any (moveOutOfRange w.slots w.pinned g r c) = true)
    (ho : allSlots.any (moveOverlaps w.slots w.pinned g r c) = true) : applyOp f sc w (.groupMove g r c) = .error .overlap :=
  (if_neg h).trans (if_pos ho)

theorem groupMove_ok (h : ¬ allSlots.any (moveOutOfRange w.slots w.pinned g r c) = true)
    (ho : ¬ allSlots.any (moveOverlaps w.slots w.pinned g r c) = true) :
    applyOp f sc w (.groupMove g r c) = .ok { w with slots := moveMembers w.slots w.pinned g r c } :=
  (if_neg h).trans (if_neg ho)

end

/-- Settles O43: GROUP CLOSE slot by slot, GROUP MOVE by its two checks, SET PINNED. -/
theorem groupAmendmentsReachUnpinnedMembers : Obligations.GroupAmendmentsReachUnpinnedMembers := by
  intro f sc w o g
  refine ⟨⟨(applyGroupClose w g).slots, allSlots.filter (freedByClose w g), ?_, ?_, fun i => ?_, fun i => ⟨fun hi => ?_, ?_, ?_⟩⟩,
    ?_, fun p => applyAmendment_ok (v := applySetPinned w p) rfl⟩
  · rw [applyAmendment_ok (v := applyGroupClose w g) rfl, applyGroupClose_eq]
    rfl
  · exact (List.pairwise_lt_finRange 32).filter _
  · rw [List.mem_filter, freedByClose_iff]
    exact and_iff_right (mem_allSlots i)
  · obtain ⟨p, hm, hc⟩ := (freedByClose_iff w g i).mp (List.mem_filter.mp hi).2
    rw [slotAt_applyGroupClose, if_pos (isMember_of hm), hm.2.1, Option.bind_some, afterClose, if_pos ((closeFrees_iff p).mpr hc)]
  · intro p hm hs hf
    have hkept : ¬ closeFrees p = true := by simp [closeFrees, hs, hf]
    rw [slotAt_applyGroupClose, if_pos (isMember_of hm), hm.2.1, Option.bind_some, afterClose, if_neg hkept, if_pos hs]
    rfl
  · intro hclosing
    rw [slotAt_applyGroupClose]
    split
    · rename_i hi
      obtain ⟨p, hm⟩ := (isMember_iff w g i).mp hi
      rw [hm.2.1, Option.bind_some]
      simp [afterClose, closeFrees, hclosing p hm]
    · rfl
  · rintro r c a rfl range overlap hrange hoverlap
    rw [← any_moveOutOfRange] at hrange
    rw [← any_moveOverlaps] at hoverlap
    rw [hrange, hoverlap]
    refine ⟨fun h => applyAmendment_error (groupMove_range h), fun h ho => applyAmendment_error (groupMove_overlap h ho),
      fun h ho => ⟨moveMembers w.slots w.pinned g r c, ?_, fun i => ⟨fun p hm => ?_, fun hno => ?_⟩⟩⟩
    · rw [applyAmendment_ok (groupMove_ok h ho), carried, List.append_nil]
    · rw [slotAt_moveMembers, if_pos (isMember_of hm), hm.2.1]
      rfl
    · rw [slotAt_moveMembers, if_neg fun hi => ((isMember_iff w g i).mp hi).elim hno]

end Sys2Proof.Machine
end

section
/-! PROOFS. The Plate Table's boundary in four parts: the queue, the advance, the new flags, the rotation index (01 R17; 02 R38 to
R40). -/

namespace Sys2Proof.Machine

/-! ## What an amendment leaves of the counts (02 R39) -/

/-- The counts of 02 R39, and whether a SET PINNED was applied, stand as they were. -/
def SameCounts (w v : TableWork) : Prop := v.applied = w.applied ∧ v.faulted = w.faulted ∧ v.pinnedSet = w.pinnedSet

theorem SameCounts.refl (w : TableWork) : SameCounts w w := ⟨rfl, rfl, rfl⟩

theorem closeSlot_sameCounts (w : TableWork) (i : Slot) (p : Plate) : SameCounts w (closeSlot w i p) := by
  unfold closeSlot
  split
  · exact .refl w
  · split <;> exact .refl w
  · exact .refl w

theorem placeAny_sameCounts (f : FieldNo) (w : TableWork) (h : HostFields) : SameCounts w (placeAny f w h) := by
  unfold placeAny
  split <;> exact .refl w

theorem applyPlace_sameCounts {f : FieldNo} {sc : Scenes} {w v : TableWork} {slot : Option Slot} {h : HostFields}
    (e : applyOp f sc w (.place slot h) = .ok v) : SameCounts w v := by
  cases slot with
  | some i =>
    simp only [applyOp, applyPlaceAt] at e
    split at e
    · cases e
    · split at e
      · cases e
      · split at e <;> cases e
        exact .refl w
  | none =>
    simp only [applyOp, applyPlaceAny] at e
    split at e
    · cases e
    · split at e
      · cases e
      · split at e <;> cases e
        exact placeAny_sameCounts f w h

/-- Every kind but SET PINNED leaves the counts to the boundary (02 R39). -/
theorem applyOp_sameCounts {f : FieldNo} {sc : Scenes} {w v : TableWork} {op : AmendOp} (h : ∀ p, op ≠ .setPinned p)
    (e : applyOp f sc w op = .ok v) : SameCounts w v := by
  cases op with
  | place slot g => exact applyPlace_sameCounts e
  | amend tag sel =>
    obtain ⟨i, p, _, e⟩ := onTag_ok e
    split at e
    · cases e
    · split at e <;> cases e
      exact .refl w
  | showPlate tag =>
    obtain ⟨i, p, _, e⟩ := onTag_ok e
    split at e <;> cases e
    exact .refl w
  | close tag =>
    obtain ⟨i, p, _, rfl⟩ := applyClose_ok e
    exact closeSlot_sameCounts w i p
  | drop tag =>
    obtain ⟨i, p, _, e⟩ := onTag_ok e
    cases e
    exact .refl w
  | mix tag level =>
    obtain ⟨i, p, _, e⟩ := onTag_ok e
    split at e <;> cases e
    exact .refl w
  | groupClose g =>
    obtain rfl : applyGroupClose w g = v := Except.ok.inj e
    rw [applyGroupClose_eq]
    exact .refl w
  | groupMove g r c =>
    obtain ⟨-, rfl⟩ := applyGroupMove_ok e
    exact .refl w
  | setPinned p => exact absurd rfl (h p)
  -- RECALL, the kind that is left
  | _ =>
    simp only [applyOp, applyRecall] at e
    split at e
    · cases e
    · split at e
      · cases e
      · split at e <;> cases e
        exact .refl w

/-- An amendment is applied or faulted: one of the two counts goes up by one (02 R39). -/
theorem applyAmendment_counts (f : FieldNo) (sc : Scenes) (w : TableWork) (a : Amendment) :
    (applyAmendment f sc w a).applied + (applyAmendment f sc w a).faulted = w.applied + w.faulted + 1 := by
  cases e : applyOp f sc w a.op with
  | error r => rw [applyAmendment_error e]; exact (Nat.add_assoc _ _ _).symm
  | ok v =>
    have hsame : v.applied = w.applied ∧ v.faulted = w.faulted := by
      by_cases hs : ∃ p, a.op = .setPinned p
      · obtain ⟨p, hp⟩ := hs
        rw [hp] at e
        cases e
        exact ⟨rfl, rfl⟩
      · obtain ⟨happ, hfault, -⟩ := applyOp_sameCounts (fun p hp => hs ⟨p, hp⟩) e
        exact ⟨happ, hfault⟩
    obtain ⟨happ, hfault⟩ := hsame
    rw [applyAmendment_ok e, ← happ, ← hfault]
    exact Nat.succ_add _ _

theorem applyAmendment_setPinned {f : FieldNo} {sc : Scenes} {w : TableWork} {a : Amendment} {p : Nat} (h : a.op = .setPinned p) :
    (applyAmendment f sc w a).pinnedSet = true := by
  rw [applyAmendment_ok (v := applySetPinned w p) (by rw [h]; rfl)]
  rfl

theorem applyAmendment_pinnedSet {f : FieldNo} {sc : Scenes} {w : TableWork} {a : Amendment} (h : ∀ p, a.op ≠ .setPinned p) :
    (applyAmendment f sc w a).pinnedSet = w.pinnedSet := by
  cases e : applyOp f sc w a.op with
  | error r => rw [applyAmendment_error e]; rfl
  | ok v =>
    obtain ⟨-, -, hset⟩ := applyOp_sameCounts h e
    rw [applyAmendment_ok e]
    exact hset

/-! ## The whole queue -/

/-- Applied and faulted add up to the entries of the queue (02 R39). -/
theorem applyQueue_counts (f : FieldNo) (sc : Scenes) (q : List Amendment) (w : TableWork) :
    (applyQueue f sc q w).applied + (applyQueue f sc q w).faulted = w.applied + w.faulted + q.length := by
  induction q generalizing w with
  | nil => rfl
  | cons a q ih =>
    have hstep := applyAmendment_counts f sc w a
    have hrest := ih (applyAmendment f sc w a)
    rw [List.length_cons, show applyQueue f sc (a :: q) w = applyQueue f sc q (applyAmendment f sc w a) from rfl]
    omega

/-- Without a SET PINNED the queue leaves the mark that one was applied. -/
theorem applyQueue_noSetPinned {f : FieldNo} {sc : Scenes} {q : List Amendment} (h : ∀ a ∈ q, ∀ p, a.op ≠ .setPinned p)
    (w : TableWork) : (applyQueue f sc q w).pinnedSet = w.pinnedSet :=
  List.foldlRecOn (motive := fun u : TableWork => u.pinnedSet = w.pinnedSet) q (applyAmendment f sc) rfl
    fun _ hu a ha => (applyAmendment_pinnedSet (h a ha)).trans hu

/-- The mark that a SET PINNED was applied stays set. -/
theorem applyQueue_keepsPinnedSet (f : FieldNo) (sc : Scenes) (q : List Amendment) {w : TableWork} (h : w.pinnedSet = true) :
    (applyQueue f sc q w).pinnedSet = true := by
  refine List.foldlRecOn (motive := fun u : TableWork => u.pinnedSet = true) q (applyAmendment f sc) h fun u hu a _ => ?_
  by_cases hs : ∃ p, a.op = .setPinned p
  · obtain ⟨p, hp⟩ := hs
    exact applyAmendment_setPinned hp
  · exact (applyAmendment_pinnedSet fun p hp => hs ⟨p, hp⟩).trans hu

theorem applyQueue_setPinned {f : FieldNo} {sc : Scenes} {q : List Amendment} (h : ∃ a ∈ q, ∃ p, a.op = .setPinned p)
    (w : TableWork) : (applyQueue f sc q w).pinnedSet = true := by
  obtain ⟨a, ha, p, hp⟩ := h
  obtain ⟨before, after, rfl⟩ := List.append_of_mem ha
  unfold applyQueue
  rw [List.foldl_append, List.foldl_cons]
  exact applyQueue_keepsPinnedSet f sc after (applyAmendment_setPinned hp)

/-! ## The advance -/

/-- v is w with other slots, occurrences behind those before and closings added, the rest as it was. -/
def Advanced (w v : TableWork) : Prop :=
  ∃ (ts : Slots) (ds : List Detail) (n : Nat),
    v = { w with slots := ts, notices := w.notices ++ ds, closings := w.closings + n }

theorem Advanced.refl (w : TableWork) : Advanced w w := ⟨w.slots, [], 0, by rw [List.append_nil]; rfl⟩

theorem Advanced.trans {u v w : TableWork} (h : Advanced u v) (h' : Advanced v w) : Advanced u w := by
  obtain ⟨ts, ds, n, rfl⟩ := h
  obtain ⟨ts', ds', n', rfl⟩ := h'
  exact ⟨ts', ds ++ ds', n + n', by rw [← List.append_assoc, ← Nat.add_assoc]⟩

theorem advanceSlot_advanced (f : FieldNo) (w : TableWork) (i : Slot) : Advanced w (advanceSlot f w i) := by
  unfold advanceSlot
  split
  · exact .refl w
  · split
    · exact .refl w
    · exact ⟨_, _, _, rfl⟩

/-- The advance of every slot writes slots and adds occurrences and closings (02 R52). -/
theorem advanceAll_advanced (f : FieldNo) (w : TableWork) : Advanced w (advanceAll f w) :=
  List.foldlRecOn (motive := Advanced w) allSlots (advanceSlot f) (.refl w) fun u hu i _ => hu.trans (advanceSlot_advanced f u i)

/-! ## The boundary -/

/-- The work of a boundary is that of the queue and the advance, with the new flags clear and the rotation index stepped (02 R38). -/
theorem tableBoundary_eq {f : FieldNo} {sc : Scenes} {t : PlateTable} {q v : TableWork}
    (hq : q = applyQueue f sc t.queue (startWork t)) (hv : v = advanceAll f q) :
    tableBoundary f sc t =
      { v with slots := clearNew v.slots, rotation := if v.pinnedSet then v.rotation else rotationStep v.pinned v.rotation } := by
  rw [tableBoundary, ← hq, ← hv]

/-- Settles O40: each amendment whole, the counts of the queue, then the advance and the rotation step by their lemmas. -/
theorem tableTakesABoundaryInFourParts : Obligations.TableTakesABoundaryInFourParts := by
  refine ⟨fun f sc w a => ⟨fun _ e => applyAmendment_error e, fun _ e => applyAmendment_ok e⟩, ?_⟩
  rintro f sc t q v w hq hv rfl
  replace hq : q = applyQueue f sc t.queue (startWork t) := hq
  replace hv : v = advanceAll f q := hv
  rw [tableBoundary_eq hq hv]
  have hcounts : q.applied + q.faulted = t.queue.length := by
    rw [hq, applyQueue_counts]
    exact Nat.zero_add _
  obtain ⟨ts, ds, n, hadvanced⟩ : Advanced q v := hv ▸ advanceAll_advanced f q
  clear hv
  subst hadvanced
  refine ⟨slotAt_clearNew ts, rfl, rfl, ⟨ds, n, rfl, rfl⟩, rfl, rfl, rfl, rfl, rfl, hcounts, fun hset => ?_, fun hnone => ?_⟩
  · have hpinned : q.pinnedSet = true := hq ▸ applyQueue_setPinned hset _
    exact if_pos hpinned
  · have hpinned : q.pinnedSet = false := hq ▸ applyQueue_noSetPinned hnone _
    have hrot : (if q.pinnedSet then q.rotation else rotationStep q.pinned q.rotation) = rotationStep q.pinned q.rotation :=
      if_neg (Bool.eq_false_iff.mp hpinned)
    exact ⟨fun h => hrot.trans (rotationStep_wrap h), fun h => (congrArg (fun r : Slot => r.val + 1) hrot).trans (rotationStep_down h)⟩

end Sys2Proof.Machine
end

section
/-! PROOFS. The advance of a slot and the motion step (02 R51 to R59). -/

namespace Sys2Proof.Machine

/-! ## The motion step (02 R57 to R59) -/

/-- The lowest slot that meets the record is the one found (02 R58). -/
theorem firstHit_eq_some {ts : Slots} {i j : Slot} {q : Plate} {h : HostFields} (hj : j ≠ i) (hq : slotAt ts j = some q)
    (hm : q.toHostFields.meets h = true) (hlow : ¬ MeetsLive ts (fun k => k = i ∨ j ≤ k) h) :
    firstHit ts (fun k => k == i) h = some j := by
  refine List.find?_eq_some_iff_getElem.mpr
    ⟨by simp [hj, hq, hm], j.val, by simp [allSlots], by simp [allSlots], fun k hk => ?_⟩
  have hkj : (⟨k, Nat.lt_trans hk j.isLt⟩ : Slot) < j := hk
  simp only [allSlots, List.getElem_finRange, Fin.cast_mk, Bool.not_eq_true', Bool.and_eq_false_imp, Option.any_eq_false]
  intro hki r hr
  refine Bool.eq_false_iff.mpr fun hmeets => hlow ⟨_, r, ?_, hr, hmeets⟩
  rintro (rfl | hge)
  · simp at hki
  · exact absurd hkj (not_lt.mpr hge)

section
variable {ts : Slots} {i : Slot} {p : Plate} {top left rowRate colRate : Int} {rowStop colStop : Bool}

theorem motionStep_still (hr : p.rowRate = 0) (hc : p.colRate = 0) :
    motionStep ts i p = { plate := some { p with held := false }, notices := [] } := if_pos ⟨hr, hc⟩

/-- A candidate that meets another live plate holds the plate (02 R58). -/
theorem motionStep_held {j : Slot} (hmove : ¬ (p.rowRate = 0 ∧ p.colRate = 0))
    (hrow : AxisGoes p.top p.rowRate p.stopRow top rowRate rowStop)
    (hcol : AxisGoes p.left p.colRate p.stopCol left colRate colStop)
    (hhit : firstHit ts (fun k => k == i) { p.toHostFields with top := top, left := left } = some j) :
    motionStep ts i p = heldStep ts p j := by
  rw [motionStep, if_neg hmove, hrow.candidate, hcol.candidate]
  dsimp only
  rw [hhit]

/-- A candidate that is clear is taken (02 R59). -/
theorem motionStep_moves (hmove : ¬ (p.rowRate = 0 ∧ p.colRate = 0))
    (hrow : AxisGoes p.top p.rowRate p.stopRow top rowRate rowStop)
    (hcol : AxisGoes p.left p.colRate p.stopCol left colRate colStop)
    (hclear : ¬ MeetsLive ts (fun k => k = i) { p.toHostFields with top := top, left := left }) :
    motionStep ts i p = moveStep p { coord := top, stopped := rowStop, rate := rowRate }
      { coord := left, stopped := colStop, rate := colRate } := by
  have hnone : firstHit ts (fun k => k == i) { p.toHostFields with top := top, left := left } = none :=
    Option.not_isSome_iff_eq_none.mp fun h => hclear ((firstHit_others_isSome _ _ _).mp h)
  rw [motionStep, if_neg hmove, hrow.candidate, hcol.candidate]
  dsimp only
  rw [hnone]

end

/-! ## Close-at-stop (02 R59) -/

/-- The plate that a move leaves has close-at-stop, is SHOWN and has come to rest. -/
def ClosesAtStop (m : Plate) : Prop := m.closeAtStop = true ∧ m.state = .shown ∧ m.rowRate = 0 ∧ m.colRate = 0

theorem closeAtStopStep_frees {m : Plate} (h : ClosesAtStop m) (hf : m.fadeStep = 0) : closeAtStopStep m = none := by
  obtain ⟨hc, hs, hr, hcol⟩ := h
  simp [closeAtStopStep, hc, hs, hr, hcol, hf]

theorem closeAtStopStep_fades {m : Plate} (h : ClosesAtStop m) (hf : m.fadeStep ≠ 0) :
    closeAtStopStep m = some (nowClosing m) := by
  obtain ⟨hc, hs, hr, hcol⟩ := h
  simp [closeAtStopStep, hc, hs, hr, hcol, hf, nowClosing]

theorem closeAtStopStep_keeps {m : Plate} (h : ¬ ClosesAtStop m) : closeAtStopStep m = some m := by
  refine if_neg fun hc => h ?_
  simp only [Bool.and_eq_true, decide_eq_true_eq, and_assoc] at hc
  exact hc

theorem moveStep_frees {p : Plate} {row col : Candidate} (h : closeAtStopStep (movedPlate p row col) = none) :
    moveStep p row col = freedAfter (movedPlate p row col)
      (if row.stopped || col.stopped then stoppedNotice p.toHostFields else []) := by
  rw [moveStep, h]

theorem moveStep_leaves {p m : Plate} {row col : Candidate} (h : closeAtStopStep (movedPlate p row col) = some m) :
    moveStep p row col =
      { plate := some m, notices := if row.stopped || col.stopped then stoppedNotice p.toHostFields else [] } := by
  rw [moveStep, h]

/-- PLATE STOPPED at a stop, for a plate whose notify set holds it. -/
theorem stoppedNotice_if (b : Bool) (p : Plate) :
    (if b = true then stoppedNotice p.toHostFields else []) = if (b && p.notify.stopped) = true then [.plateStopped p.tag] else [] := by
  cases b <;> rfl

/-- Settles O46: still by its rates, held by the lowest slot met, or moved and then close-at-stop. -/
theorem motionMovesHoldsOrStops : Obligations.MotionMovesHoldsOrStops := by
  intro ts i p
  refine ⟨motionStep_still, ?_⟩
  rintro top left rowRate colRate rowStop colStop ds m hmove hrow hcol hds rfl
  rw [← stoppedNotice_if] at hds
  refine ⟨fun j q hj hq hmeets hlow => ?_, fun hclear => ?_⟩
  · rw [motionStep_held hmove hrow hcol (firstHit_eq_some hj hq hmeets hlow), heldStep, hq]
    rfl
  · rw [motionStep_moves hmove hrow hcol hclear, hds]
    generalize hm : movedPlate p { coord := top, stopped := rowStop, rate := rowRate }
      { coord := left, stopped := colStop, rate := colRate } = m
    have hstop : ClosesAtStop m ↔ p.closeAtStop = true ∧ p.state = .shown ∧ rowRate = 0 ∧ colRate = 0 := hm ▸ Iff.rfl
    have hfade : m.fadeStep = p.fadeStep := hm ▸ rfl
    refine ⟨fun hc hs hr hcl hf => ?_, fun hc hs hr hcl hf => ?_, fun hstays => ?_⟩
    · rw [moveStep_frees (hm ▸ closeAtStopStep_frees (hstop.mpr ⟨hc, hs, hr, hcl⟩) (hfade.trans hf))]
      rfl
    · rw [moveStep_leaves (hm ▸ closeAtStopStep_fades (hstop.mpr ⟨hc, hs, hr, hcl⟩) (hfade ▸ hf))]
      rfl
    · rw [moveStep_leaves (hm ▸ closeAtStopStep_keeps fun h => hstays (hstop.mp h))]
      rfl

end Sys2Proof.Machine
end

section
/-! PROOFS. The advance of a slot by its plate's state: start, lifetime, fades (02 R51 to R56). -/

namespace Sys2Proof.Machine

/-! ## A slot with a plate that takes part (02 R52) -/

/-- The result of a plate's steps is put in the slot alone, a freed plate counted as a closing (02 R51, R52). -/
theorem take_eq (w : TableWork) (i : Slot) (r : AdvanceResult) :
    w.take i r = { w with slots := putSlot w.slots i r.plate, notices := w.notices ++ r.notices
                          closings := w.closings + (if r.plate = none then 1 else 0) } := by
  simp only [TableWork.take, Option.isNone_iff_eq_none]

section
variable {f : FieldNo} {w : TableWork} {i : Slot} {p : Plate}

theorem advanceSlot_free (h : slotAt w.slots i = none) : advanceSlot f w i = w := by
  rw [advanceSlot, h]

theorem advanceSlot_new (hp : slotAt w.slots i = some p) (hn : p.new = true) : advanceSlot f w i = w := by
  rw [advanceSlot, hp]
  exact if_pos hn

theorem advanceSlot_live (hp : slotAt w.slots i = some p) (hn : p.new = false) :
    advanceSlot f w i = w.take i (advancePlate f w.slots i p) := by
  rw [advanceSlot, hp]
  exact if_neg (Bool.eq_false_iff.mp hn)

end

theorem advancePlate_armed {f : FieldNo} {ts : Slots} {i : Slot} {p : Plate} (h : p.state = .armed) :
    advancePlate f ts i p = advanceArmed f p := by rw [advancePlate, h]

theorem advancePlate_shown {f : FieldNo} {ts : Slots} {i : Slot} {p : Plate} (h : p.state = .shown) :
    advancePlate f ts i p = advanceShown ts i p := by rw [advancePlate, h]

theorem advancePlate_closing {f : FieldNo} {ts : Slots} {i : Slot} {p : Plate} (h : p.state = .closing) :
    advancePlate f ts i p = advanceClosing ts i p := by rw [advancePlate, h]

/-! ## The start step of an ARMED plate (02 R53) -/

theorem advanceArmed_starts {f g : FieldNo} {p : Plate} (hs : p.start = .atField g) (hg : (f - g).toNat < 2147483648) :
    advanceArmed f p = { plate := some (nowShown p), notices := shownRaised p.toHostFields } := by
  rw [advanceArmed, hs]
  exact if_pos ((atOrBefore_iff g f).mpr hg)

theorem advanceArmed_waits {f : FieldNo} {p : Plate} (h : ∀ g, p.start = .atField g → ¬ (f - g).toNat < 2147483648) :
    advanceArmed f p = { plate := some p, notices := [] } := by
  unfold advanceArmed
  split
  · rename_i g hs
    exact if_neg fun hg => h g hs ((atOrBefore_iff g f).mp hg)
  · rfl
  · rfl

/-! ## The lifetime of a SHOWN plate (02 R54) -/

theorem lifetimeStep_counts {p : Plate} (h : p.lifetime ≠ 1) : lifetimeStep p = some { p with lifetime := p.lifetime - 1 } := by
  by_cases h0 : p.lifetime = 0
  · have hl : p.lifetime - 1 = p.lifetime := by omega
    rw [lifetimeStep, if_pos h0, hl]
  · exact (if_neg h0).trans (if_pos h)

theorem lifetimeStep_frees {p : Plate} (h : p.lifetime = 1) (hf : p.fadeStep = 0) : lifetimeStep p = none := by
  simp [lifetimeStep, h, hf]

theorem lifetimeStep_closes {p : Plate} (h : p.lifetime = 1) (hf : p.fadeStep ≠ 0) :
    lifetimeStep p = some (nowClosing { p with lifetime := 0 }) := by
  simp [lifetimeStep, h, hf, nowClosing]

section
variable {ts : Slots} {i : Slot} {p : Plate}

theorem advanceShown_frees (h : p.lifetime = 1) (hf : p.fadeStep = 0) :
    advanceShown ts i p = { plate := none, notices := closedRaised p.toHostFields } := by
  rw [advanceShown, lifetimeStep_frees h hf]
  rfl

theorem advanceShown_closes (h : p.lifetime = 1) (hf : p.fadeStep ≠ 0) :
    advanceShown ts i p = advanceClosing ts i (nowClosing { p with lifetime := 0 }) := by
  rw [advanceShown, lifetimeStep_closes h hf]
  exact if_pos rfl

theorem advanceShown_fades (hs : p.state = .shown) (h : p.lifetime ≠ 1) :
    advanceShown ts i p = motionStep ts i (shownFade { p with lifetime := p.lifetime - 1 }) := by
  rw [advanceShown, lifetimeStep_counts h]
  exact if_neg fun hc : p.state = .closing => by rw [hs] at hc; cases hc

end

/-! ## The fade of a SHOWN plate (02 R55) -/

section
variable {q : Plate}

theorem shownFade_rests (h : q.mix = q.mixTarget) : shownFade q = { q with fadePhase := 0 } := if_pos h

theorem shownFade_jumps (h : q.mix ≠ q.mixTarget) (hf : q.fadeStep = 0) : shownFade q = { q with mix := q.mixTarget } :=
  (if_neg h).trans (if_pos hf)

theorem shownFade_counts (h : q.mix ≠ q.mixTarget) (hp : q.fadePhase + 1 < q.fadeStep) :
    shownFade q = { q with fadePhase := q.fadePhase + 1 } :=
  (if_neg h).trans ((if_neg (by omega)).trans (if_pos hp))

theorem shownFade_moves (h : q.mix ≠ q.mixTarget) (hf : q.fadeStep ≠ 0) (hp : q.fadeStep ≤ q.fadePhase + 1) :
    shownFade q = { q with mix := towardLevel q.mix q.mixTarget, fadePhase := 0 } :=
  (if_neg h).trans ((if_neg hf).trans (if_neg (Nat.not_lt.mpr hp)))

theorem shownFade_rises (h : q.mix < q.mixTarget) (hf : q.fadeStep ≠ 0) (hp : q.fadeStep ≤ q.fadePhase + 1) :
    shownFade q = { q with mix := q.mix + 1, fadePhase := 0 } := by
  rw [shownFade_moves (Nat.ne_of_lt h) hf hp, towardLevel, if_pos h]

theorem shownFade_falls (h : q.mixTarget < q.mix) (hf : q.fadeStep ≠ 0) (hp : q.fadeStep ≤ q.fadePhase + 1) :
    shownFade q = { q with mix := q.mix - 1, fadePhase := 0 } := by
  rw [shownFade_moves (Nat.ne_of_gt h) hf hp, towardLevel, if_neg (Nat.not_lt.mpr (Nat.le_of_lt h))]

/-! ## The fade of a CLOSING plate (02 R56) -/

theorem closingFade_gone (h : q.mix = 0) : closingFade q = none := if_pos h

theorem closingFade_counts (h : q.mix ≠ 0) (hp : q.fadePhase + 1 < q.fadeStep) :
    closingFade q = some { q with fadePhase := q.fadePhase + 1 } := (if_neg h).trans (if_pos hp)

theorem closingFade_ends (h : q.mix = 1) (hp : q.fadeStep ≤ q.fadePhase + 1) : closingFade q = none :=
  (if_neg (by omega)).trans ((if_neg (Nat.not_lt.mpr hp)).trans (if_pos h))

theorem closingFade_falls (h : 1 < q.mix) (hp : q.fadeStep ≤ q.fadePhase + 1) :
    closingFade q = some { q with mix := q.mix - 1, fadePhase := 0 } :=
  (if_neg (by omega)).trans ((if_neg (Nat.not_lt.mpr hp)).trans (if_neg (by omega)))

theorem advanceClosing_frees {ts : Slots} {i : Slot} (h : closingFade q = none) :
    advanceClosing ts i q = { plate := none, notices := closedRaised q.toHostFields } := by
  rw [advanceClosing, h]
  rfl

theorem advanceClosing_moves {ts : Slots} {i : Slot} {m : Plate} (h : closingFade q = some m) :
    advanceClosing ts i q = motionStep ts i m := by
  rw [advanceClosing, h]

end

/-! ## The current mix moves by at most one level (02 R55, R56) -/

/-- The two mixes differ by at most one level. -/
def NextLevel (m n : Nat) : Prop := n ≤ m + 1 ∧ m ≤ n + 1

theorem NextLevel.refl (m : Nat) : NextLevel m m := ⟨Nat.le_succ m, Nat.le_succ m⟩

/-- The motion step leaves the current mix (02 R57 to R59). -/
theorem motionStep_mix {ts : Slots} {i : Slot} {p q : Plate} (h : (motionStep ts i p).plate = some q) : q.mix = p.mix := by
  unfold motionStep at h
  split at h
  · cases h; rfl
  · dsimp only at h
    split at h
    · cases h; rfl
    · unfold moveStep closeAtStopStep at h
      dsimp only at h
      split at h
      · rename_i m hm
        cases h
        split at hm
        · split at hm <;> cases hm
          rfl
        · cases hm; rfl
      · cases h

theorem shownFade_nextLevel {q : Plate} (hf : q.fadeStep ≠ 0) : NextLevel q.mix (shownFade q).mix := by
  by_cases h : q.mix = q.mixTarget
  · rw [shownFade_rests h]; exact .refl _
  · rcases Nat.lt_or_ge (q.fadePhase + 1) q.fadeStep with hp | hp
    · rw [shownFade_counts h hp]; exact .refl _
    · rw [shownFade_moves h hf hp]
      simp only [NextLevel, towardLevel]
      split <;> omega

theorem closingFade_nextLevel {q m : Plate} (h : closingFade q = some m) : NextLevel q.mix m.mix := by
  unfold closingFade at h
  split at h
  · cases h
  · split at h
    · cases h; exact .refl _
    · split at h <;> cases h
      simp only [NextLevel]
      omega

theorem advanceClosing_nextLevel {ts : Slots} {i : Slot} {p q : Plate} (h : (advanceClosing ts i p).plate = some q) :
    NextLevel p.mix q.mix := by
  cases e : closingFade p with
  | none => rw [advanceClosing_frees e] at h; cases h
  | some m =>
    rw [advanceClosing_moves e] at h
    rw [motionStep_mix h]
    exact closingFade_nextLevel e

theorem advanceShown_nextLevel {ts : Slots} {i : Slot} {p q : Plate} (hs : p.state = .shown) (hf : p.fadeStep ≠ 0)
    (h : (advanceShown ts i p).plate = some q) : NextLevel p.mix q.mix := by
  by_cases hl : p.lifetime = 1
  · rw [advanceShown_closes hl hf] at h
    exact advanceClosing_nextLevel (p := nowClosing { p with lifetime := 0 }) h
  · rw [advanceShown_fades hs hl] at h
    rw [motionStep_mix h]
    exact shownFade_nextLevel (q := { p with lifetime := p.lifetime - 1 }) hf

/-- An ARMED plate has current mix 0, and keeps it through its start step when it has a fade step (02 R43, R53). -/
theorem advanceArmed_nextLevel {f : FieldNo} {p q : Plate} (hm : p.mix = 0) (hf : p.fadeStep ≠ 0)
    (h : (advanceArmed f p).plate = some q) : NextLevel p.mix q.mix := by
  rcases advanceArmed_cases f p with e | e <;> rw [e] at h <;> cases h
  · exact .refl _
  · rw [hm, becomeShown, shownMix, if_neg hf]
    exact .refl _

theorem advancePlate_nextLevel {f : FieldNo} {ts : Slots} {i : Slot} {p q : Plate} (hr : p.InRange) (hf : p.fadeStep ≠ 0)
    (h : (advancePlate f ts i p).plate = some q) : NextLevel p.mix q.mix := by
  obtain ⟨-, -, -, -, harmed, -⟩ := hr
  cases hs : p.state with
  | armed => rw [advancePlate_armed hs] at h; exact advanceArmed_nextLevel (harmed hs) hf h
  | shown => rw [advancePlate_shown hs] at h; exact advanceShown_nextLevel hs hf h
  | closing => rw [advancePlate_closing hs] at h; exact advanceClosing_nextLevel h

/-- Settles O45: the steps of a plate by its state, each by its lemma. -/
theorem advanceStartsCountsAndFades : Obligations.AdvanceStartsCountsAndFades := by
  refine ⟨fun f w i h => advanceSlot_free h, take_eq, slotAt_putSlot, fun f w i p hp => ⟨advanceSlot_new hp, fun hn => ?_⟩⟩
  rw [advanceSlot_live hp hn]
  refine ⟨fun hs g hg hle => ?_, fun hs hw => ?_, fun hs hl hf => ?_, ?_, ?_, fun hr hf q hq => ?_⟩
  · rw [advancePlate_armed hs, advanceArmed_starts hg hle]
  · rw [advancePlate_armed hs, advanceArmed_waits hw]
  · rw [advancePlate_shown hs, advanceShown_frees hl hf]
  · rintro q hs hl rfl
    rw [advancePlate_shown hs, advanceShown_fades hs hl]
    exact ⟨fun h => by rw [shownFade_rests h], fun h hf => by rw [shownFade_jumps h hf],
      fun h hc => by rw [shownFade_counts h hc], fun h hf hc => by rw [shownFade_rises h hf hc],
      fun h hf hc => by rw [shownFade_falls h hf hc]⟩
  · intro q hq
    have hclosing : advancePlate f w.slots i p = advanceClosing w.slots i q := by
      rcases hq with ⟨hs, rfl⟩ | ⟨hs, hl, hf, rfl⟩
      · exact advancePlate_closing hs
      · rw [advancePlate_shown hs, advanceShown_closes hl hf]
    rw [hclosing]
    exact ⟨fun h => by rw [advanceClosing_frees (closingFade_gone h)],
      fun h hc => by rw [advanceClosing_moves (closingFade_counts h hc)],
      fun h hc => by rw [advanceClosing_frees (closingFade_ends h hc)],
      fun h hc => by rw [advanceClosing_moves (closingFade_falls h hc)]⟩
  · rw [take_eq, slotAt_putSlot_same] at hq
    exact advancePlate_nextLevel hr hf hq

end Sys2Proof.Machine
end

section
/-! PROOFS. Operand bytes read back: what each reading function finds in the bytes that a layout puts there, and with that PLACE (02 R34;
09 R187). -/

namespace Sys2Proof.Machine

/-! ## Reading single fields -/

/-- A bit of a byte, by division. -/
theorem getLsbD_of_div {b : Byte} {k : Nat} {x : Bool} (h : b.toNat / 2 ^ k % 2 = x.toNat) : b.getLsbD k = x := by
  rw [← BitVec.testBit_toNat, Nat.testBit_eq_decide_div_mod_eq, h]
  cases x <;> rfl

theorem keyModeCode_le (m : KeyMode) : keyModeCode m ≤ 1 := by cases m <;> decide

/-- A key mode reads back from the bit that holds its code (09 R187). -/
theorem keyModeOf_code {b : Byte} {m : KeyMode} (h : b.toNat % 2 = keyModeCode m) : keyModeOf (b.getLsbD 0) = m := by
  have hbit : b.getLsbD 0 = decide (m = .index) :=
    getLsbD_of_div (by rw [Nat.pow_zero, Nat.div_one, h]; cases m <;> rfl)
  rw [hbit]
  cases m <;> rfl

theorem notifyCode_eq (n : NotifySet) : notifyCode n = n.shown.toNat + 2 * n.closed.toNat + 4 * n.stopped.toNat := by
  simp [notifyCode, bitVal_eq]

theorem notifyCode_le (n : NotifySet) : notifyCode n ≤ 7 := by
  rw [notifyCode_eq]
  have h0 := n.shown.toNat_le
  have h1 := n.closed.toNat_le
  have h2 := n.stopped.toNat_le
  omega

/-- A notify set reads back from the byte that holds its code (09 R187). -/
theorem notifyOf_code {b : Byte} {n : NotifySet} (h : b.toNat = notifyCode n) : notifyOf b = n := by
  rw [notifyCode_eq] at h
  have h0 := n.shown.toNat_le
  have h1 := n.closed.toNat_le
  have h2 := n.stopped.toNat_le
  have hshown : b.getLsbD 0 = n.shown := getLsbD_of_div (by omega)
  have hclosed : b.getLsbD 1 = n.closed := getLsbD_of_div (by omega)
  have hstopped : b.getLsbD 2 = n.stopped := getLsbD_of_div (by omega)
  rw [notifyOf, hshown, hclosed, hstopped]

/-- A transparent index, or its absence, reads back from its number (09 R187). -/
theorem transOf_getD {t : Option Nat} (h : ∀ x, t = some x → x ≤ 15) : transOf (t.getD 16) = t ∧ transOk (t.getD 16) = true := by
  cases t with
  | none => exact ⟨rfl, rfl⟩
  | some x =>
    have hx := h x rfl
    exact ⟨if_neg (show x ≠ 16 by omega), decide_eq_true (show x ≤ 16 by omega)⟩

/-- Two bytes as one word. -/
theorem ofNat_bytes (a b : Byte) : BitVec.ofNat 16 (a.toNat + 256 * b.toNat) = (b ++ a : BitVec 16) := by
  rw [← append_toNat, BitVec.ofNat_toNat, BitVec.setWidth_eq]

/-- A field number reads back from its four bytes (09 R187). -/
theorem op32_of_bytes {ops : List Byte} {i : Nat} {f : FieldNo}
    (h : op8 ops i + 256 * (op8 ops (i + 1) + 256 * (op8 ops (i + 2) + 256 * op8 ops (i + 2 + 1))) = f.toNat) : op32 ops i = f := by
  have hsum : op16 ops i + 65536 * op16 ops (i + 2) = f.toNat := by
    rw [← h, op16, op16]
    omega
  rw [op32, hsum, BitVec.ofNat_toNat, BitVec.setWidth_eq]

/-- A signed 16-bit number reads back from its two bytes (09 R187). -/
theorem sop16_of_bytes {ops : List Byte} {i : Nat} {a b : Byte} {x : Int} (ha : opByte ops i = a) (hb : opByte ops (i + 1) = b)
    (h : (b ++ a : BitVec 16).toInt = x) : sop16 ops i = x := by
  rw [sop16, op16, op8, op8, ha, hb, ofNat_bytes, h]

/-- The bytes at position i pass the check of a stop and read back as the stop (09 R187). -/
def StopReads (ops : List Byte) (i : Nat) (z : Option Int) : Prop :=
  stopOk (op16 ops i) (sop16 ops i) = true ∧ stopOf (op16 ops i) (sop16 ops i) = z

/-- A stop reads back from its bytes: a coordinate's bytes are never the absence marker (09 R187). -/
theorem stopReads_of_bytes {ops : List Byte} {i : Nat} {a b : Byte} {z : Option Int} (ha : opByte ops i = a)
    (hb : opByte ops (i + 1) = b) (hz : ∀ x, z = some x → -1024 ≤ x ∧ x ≤ 2047)
    (hnone : z = none → a.toNat + 256 * b.toNat = 0x8000) (hsome : ∀ x, z = some x → (b ++ a : BitVec 16).toInt = x) :
    StopReads ops i z := by
  have hraw : op16 ops i = a.toNat + 256 * b.toNat := by rw [op16, op8, op8, ha, hb]
  cases z with
  | none =>
    rw [StopReads, hraw, hnone rfl]
    exact ⟨rfl, rfl⟩
  | some x =>
    have hx := hz x rfl
    have hread : sop16 ops i = x := sop16_of_bytes ha hb (hsome x rfl)
    have hmarker : op16 ops i ≠ 0x8000 := by
      intro he
      have : sop16 ops i = -32768 := by rw [sop16, he]; rfl
      omega
    rw [StopReads, hread]
    exact ⟨by simp [stopOk, (coordOk_iff x).mpr hx], if_neg hmarker⟩

/-! ## PLACE -/

/-- What the reading functions find in the operand bytes of a PLACE (09 R187, PLACE operand). -/
structure PlaceReads (slot : Option Slot) (h : HostFields) (ops : List Byte) : Prop where
  slotByte : op8 ops 0 = (slot.map fun i => i.val).getD 255
  tag : opByte ops 1 = h.tag
  groups : op8 ops 2 = h.group + 16 * h.layer
  modes : op8 ops 3 = keyModeCode h.keyMode + 2 * startCode h.start + 8 * (startPresent h.start).toNat +
    16 * h.holdInSlew.toNat + 32 * h.closeAtStop.toNat
  transIndex : op8 ops 4 = h.transIndex.getD 16
  mixTarget : op8 ops 5 = h.mixTarget
  fadeStep : op8 ops 6 = h.fadeStep
  start : op32 ops 7 = startField h.start
  lifetime : op16 ops 11 = h.lifetime
  rowRate : sop8 ops 13 = h.rowRate
  colRate : sop8 ops 14 = h.colRate
  top : sop16 ops 15 = h.top
  left : sop16 ops 17 = h.left
  height : op16 ops 19 = h.height
  width : op16 ops 21 = h.width
  stopRow : StopReads ops 23 h.stopRow
  stopCol : StopReads ops 25 h.stopCol
  notify : op8 ops 27 = notifyCode h.notify

theorem startCode_le (m : StartMode) : startCode m ≤ 2 := by cases m <;> simp [startCode]

theorem slotByte_le (slot : Option Slot) : (slot.map fun i => i.val).getD 255 ≤ 255 := by
  cases slot with
  | none => exact Nat.le_refl _
  | some i => exact Nat.le_trans (Nat.le_of_lt i.isLt) (by decide)

theorem transIndex_le {t : Option Nat} (h : ∀ x, t = some x → x ≤ 15) : t.getD 16 ≤ 16 := by
  cases t with
  | none => exact Nat.le_refl _
  | some x => exact Nat.le_trans (h x rfl) (by decide)

/-- The 28 bytes of a PLACE in range, one by one: every number is read where its bytes stand. -/
theorem placeBytes_reads (slot : Option Slot) {h : HostFields} (hr : h.InRange) :
    (placeBytes slot h).length = 28 ∧ PlaceReads slot h (placeBytes slot h) := by
  obtain ⟨-, -, hgroup, hlayer, htop0, htop1, hleft0, hleft1, -, hheight, -, hwidth, htrans, hmix, hfade, hlife, hrow0, hrow1,
    hcol0, hcol1, hstopRow, hstopCol⟩ := hr
  obtain ⟨s0, s1, s2, s3, hs, hsn⟩ := le32_spec (startField h.start)
  obtain ⟨l0, l1, hl, hln⟩ := le16_spec (n := h.lifetime) (by omega)
  obtain ⟨t0, t1, ht, htn⟩ := le16i_spec (x := h.top) (by omega) (by omega)
  obtain ⟨x0, x1, hx, hxn⟩ := le16i_spec (x := h.left) (by omega) (by omega)
  obtain ⟨y0, y1, hy, hyn⟩ := le16_spec (n := h.height) (by omega)
  obtain ⟨w0, w1, hw, hwn⟩ := le16_spec (n := h.width) (by omega)
  obtain ⟨r0, r1, hrs, hrnone, hrsome⟩ := stopBytes_spec hstopRow
  obtain ⟨c0, c1, hcs, hcnone, hcsome⟩ := stopBytes_spec hstopCol
  have hlist : placeBytes slot h =
      [byteOf ((slot.map fun i => i.val).getD 255), h.tag, byteOf (h.group + 16 * h.layer),
       byteOf (keyModeCode h.keyMode + 2 * startCode h.start + 8 * (startPresent h.start).toNat + 16 * h.holdInSlew.toNat +
         32 * h.closeAtStop.toNat),
       byteOf (h.transIndex.getD 16), byteOf h.mixTarget, byteOf h.fadeStep, s0, s1, s2, s3, l0, l1, byteOfInt h.rowRate,
       byteOfInt h.colRate, t0, t1, x0, x1, y0, y1, w0, w1, r0, r1, c0, c1, byteOf (notifyCode h.notify)] := by
    unfold placeBytes
    rw [startBytes_eq, hs, hl, ht, hx, hy, hw, hrs, hcs]
    simp only [bitVal_eq, Nat.reducePow, List.cons_append, List.nil_append]
  have hkey := keyModeCode_le h.keyMode
  have hstart := startCode_le h.start
  have hpresent := (startPresent h.start).toNat_le
  have hslew := h.holdInSlew.toNat_le
  have hclose := h.closeAtStop.toNat_le
  rw [hlist]
  exact ⟨rfl,
    { slotByte := byteOf_toNat (slotByte_le slot)
      tag := rfl
      groups := byteOf_toNat (by omega)
      modes := byteOf_toNat (by omega)
      transIndex := byteOf_toNat (Nat.le_trans (transIndex_le htrans) (by decide))
      mixTarget := byteOf_toNat (by omega)
      fadeStep := byteOf_toNat (by omega)
      start := op32_of_bytes hsn
      lifetime := hln
      rowRate := byteOfInt_toInt (by omega) (by omega)
      colRate := byteOfInt_toInt (by omega) (by omega)
      top := sop16_of_bytes rfl rfl htn
      left := sop16_of_bytes rfl rfl hxn
      height := hyn
      width := hwn
      stopRow := stopReads_of_bytes rfl rfl hstopRow hrnone hrsome
      stopCol := stopReads_of_bytes rfl rfl hstopCol hcnone hcsome
      notify := byteOf_toNat (Nat.le_trans (notifyCode_le h.notify) (by decide)) }⟩

section
variable {slot : Option Slot} {h : HostFields} {ops : List Byte}

theorem PlaceReads.startCode_eq (e : PlaceReads slot h ops) : placeStartCode ops = startCode h.start := by
  have hkey := keyModeCode_le h.keyMode
  have hstart := startCode_le h.start
  have hmodes := e.modes
  unfold placeStartCode
  omega

/-- The single bits of the mode byte: start field present, hold-in-slew, close-at-stop, and two zeros. -/
theorem PlaceReads.modeBits (e : PlaceReads slot h ops) :
    (opByte ops 3).getLsbD 3 = startPresent h.start ∧ (opByte ops 3).getLsbD 4 = h.holdInSlew ∧
      (opByte ops 3).getLsbD 5 = h.closeAtStop ∧ (opByte ops 3).getLsbD 6 = false ∧ (opByte ops 3).getLsbD 7 = false := by
  have hkey := keyModeCode_le h.keyMode
  have hstart := startCode_le h.start
  have hpresent := (startPresent h.start).toNat_le
  have hslew := h.holdInSlew.toNat_le
  have hclose := h.closeAtStop.toNat_le
  have hmodes : (opByte ops 3).toNat = _ := e.modes
  exact ⟨getLsbD_of_div (by omega), getLsbD_of_div (by omega), getLsbD_of_div (by omega),
    getLsbD_of_div (by rw [Bool.toNat_false]; omega), getLsbD_of_div (by rw [Bool.toNat_false]; omega)⟩

/-- The three unused bits beside group and layer are zeros. -/
theorem PlaceReads.groupBits (e : PlaceReads slot h ops) (hg : h.group ≤ 7) (hl : h.layer ≤ 3) :
    (opByte ops 2).getLsbD 3 = false ∧ (opByte ops 2).getLsbD 6 = false ∧ (opByte ops 2).getLsbD 7 = false := by
  have hgroups : (opByte ops 2).toNat = _ := e.groups
  exact ⟨getLsbD_of_div (by rw [Bool.toNat_false]; omega), getLsbD_of_div (by rw [Bool.toNat_false]; omega),
    getLsbD_of_div (by rw [Bool.toNat_false]; omega)⟩

theorem PlaceReads.slot_eq (e : PlaceReads slot h ops) : placeSlot ops = slot := by
  unfold placeSlot
  have hslot := e.slotByte
  cases slot with
  | none =>
    have h255 : op8 ops 0 = 255 := hslot
    exact dif_neg (by omega)
  | some i =>
    have hi : op8 ops 0 = i.val := hslot
    rw [dif_pos (hi ▸ i.isLt)]
    exact congrArg some (Fin.ext hi)

/-- The check of a PLACE passes: every byte carries a defined encoding in range (02 R34). -/
theorem PlaceReads.ok (e : PlaceReads slot h ops) (hr : h.InRange) : placeOk ops = true := by
  obtain ⟨htag0, htag1, hgroup, hlayer, htop0, htop1, hleft0, hleft1, hheight0, hheight1, hwidth0, hwidth1, htrans, hmix, hfade,
    -, hrow0, hrow1, hcol0, hcol1, -, -⟩ := hr
  obtain ⟨hbit3, -, -, hbit6, hbit7⟩ := e.modeBits
  obtain ⟨hunused3, hunused6, hunused7⟩ := e.groupBits hgroup hlayer
  have hslot : (decide (op8 ops 0 ≤ 31) || op8 ops 0 == 255) = true := by
    rw [e.slotByte]
    cases slot with
    | none => rfl
    | some i =>
      have hi : i.val ≤ 31 := Nat.le_of_lt_succ i.isLt
      simp [hi]
  have hpresent : (startPresent h.start == (startCode h.start == 1)) = true := by cases h.start <;> rfl
  have hnotify := notifyCode_le h.notify
  simp only [placeOk, hslot, e.tag, (tagOk_iff _).mpr ⟨htag0, htag1⟩, hunused3, hunused6, hunused7, hbit6, hbit7, e.startCode_eq,
    startCode_le, hbit3, hpresent, e.transIndex, (transOf_getD htrans).2, e.mixTarget, hmix, e.fadeStep, hfade, e.rowRate,
    (rowRateOk_iff _).mpr ⟨hrow0, hrow1⟩, e.colRate, (colRateOk_iff _).mpr ⟨hcol0, hcol1⟩, e.top, e.left,
    (coordOk_iff _).mpr ⟨htop0, htop1⟩, (coordOk_iff _).mpr ⟨hleft0, hleft1⟩, e.height, (heightOk_iff _).mpr ⟨hheight0, hheight1⟩,
    e.width, (widthOk_iff _).mpr ⟨hwidth0, hwidth1⟩, e.stopRow.1, e.stopCol.1, e.notify, hnotify, decide_true, Bool.not_false,
    Bool.and_self]

/-- Every field reads back, no bit of it dropped (09 R187). -/
theorem PlaceReads.fields_eq (e : PlaceReads slot h ops) (hr : h.InRange) : placeFields ops = h := by
  obtain ⟨-, -, hgroup, hlayer, -, -, -, -, -, -, -, -, htrans, -, -, -, -, -, -, -, -, -⟩ := hr
  obtain ⟨-, hslew, hclose, -, -⟩ := e.modeBits
  have hkey : keyModeOf ((opByte ops 3).getLsbD 0) = h.keyMode := by
    have hle := keyModeCode_le h.keyMode
    have hmodes : (opByte ops 3).toNat = _ := e.modes
    exact keyModeOf_code (by omega)
  have hgroups := e.groups
  have hgroupRead : op8 ops 2 % 8 = h.group := by omega
  have hlayerRead : op8 ops 2 / 16 % 4 = h.layer := by omega
  have hstart : (placeFields ops).start = h.start := by
    simp only [placeFields, e.startCode_eq, e.start]
    cases h.start <;> rfl
  simp only [placeFields] at hstart
  rw [placeFields, e.tag, hgroupRead, hlayerRead, e.top, e.left, e.height, e.width, hkey, e.transIndex, (transOf_getD htrans).1,
    e.mixTarget, e.fadeStep, hstart, e.lifetime, e.rowRate, e.colRate, e.stopRow.2, e.stopCol.2, notifyOf_code e.notify, hslew, hclose]

end

/-- Settles O19: the bytes read as their layout says, and from there the check, the slot and the fields. -/
theorem placeOperandBytesReadBack : Obligations.PlaceOperandBytesReadBack := by
  intro slot h hr
  obtain ⟨hlength, hreads⟩ := placeBytes_reads slot hr
  exact ⟨hlength, hreads.ok hr, hreads.slot_eq, hreads.fields_eq hr⟩

end Sys2Proof.Machine
end

section
/-! PROOFS. The operand bytes of an AMEND and of a cue entry read back (02 R35; 04 R82; 09 R187). -/

namespace Sys2Proof.Machine

/-! ## The field-select set -/

/-- Which fields a set names, in the order of their positions (09 R187, AMEND operand). -/
def selectedFields (f : FieldSelect) : Fin 18 → Bool :=
  ![f.group.isSome, f.layer.isSome, f.top.isSome, f.left.isSome, f.height.isSome, f.width.isSome, f.keyMode.isSome,
    f.transIndex.isSome, f.mixTarget.isSome, f.fadeStep.isSome, f.lifetime.isSome, f.rowRate.isSome, f.colRate.isSome,
    f.stopRow.isSome, f.stopCol.isSome, f.notify.isSome, f.holdInSlew.isSome, f.closeAtStop.isSome]

theorem selectBits_eq (f : FieldSelect) : selectBits f = Nat.ofBits (selectedFields f) := by
  simp [selectBits, bitVal_eq, selectedFields, Nat.ofBits_succ]
  omega

theorem selectBits_lt (f : FieldSelect) : selectBits f < 262144 := by
  rw [selectBits_eq]
  exact Nat.ofBits_lt_two_pow _

/-! ## AMEND -/

/-- What the reading functions find in the operand bytes of an AMEND; a field that is not selected is read as 0 (09 R187, AMEND
operand). -/
structure AmendReads (tag : Byte) (f : FieldSelect) (ops : List Byte) : Prop where
  tag : opByte ops 0 = tag
  select : amendSelect ops = selectBits f
  group : op8 ops 4 = f.group.getD 0
  layer : op8 ops 5 = f.layer.getD 0
  top : sop16 ops 6 = f.top.getD 0
  left : sop16 ops 8 = f.left.getD 0
  height : op16 ops 10 = f.height.getD 0
  width : op16 ops 12 = f.width.getD 0
  keyMode : op8 ops 14 = keyModeCode (f.keyMode.getD .box)
  transIndex : op8 ops 15 = (f.transIndex.getD (some 0)).getD 16
  fadeStep : op8 ops 16 = f.fadeStep.getD 0
  lifetime : op16 ops 17 = f.lifetime.getD 0
  rowRate : sop8 ops 19 = f.rowRate.getD 0
  colRate : sop8 ops 20 = f.colRate.getD 0
  stopRow : StopReads ops 21 (f.stopRow.getD (some 0))
  stopCol : StopReads ops 23 (f.stopCol.getD (some 0))
  notify : op8 ops 25 = notifyCode (f.notify.getD { shown := false, closed := false, stopped := false })
  holdInSlew : op8 ops 26 = (f.holdInSlew.getD false).toNat
  closeAtStop : op8 ops 27 = (f.closeAtStop.getD false).toNat
  mixTarget : op8 ops 28 = f.mixTarget.getD 0

/-- The 29 bytes of an AMEND in range, one by one. -/
theorem amendBytes_reads (tag : Byte) {f : FieldSelect} (hr : f.InRange) :
    (amendBytes tag f).length = 29 ∧ AmendReads tag f (amendBytes tag f) := by
  obtain ⟨sgroup, slayer, stop, sleft, sheight, swidth, strans, smix, sfade, slife, srow, scol, sstopRow, sstopCol⟩ := hr
  have hselect := selectBits_lt f
  have hgroup := getD_range (P := (· ≤ 7)) (old := 0) (by decide) sgroup
  have hlayer := getD_range (P := (· ≤ 3)) (old := 0) (by decide) slayer
  have htop := getD_range (P := fun x : Int => -1024 ≤ x ∧ x ≤ 2047) (old := 0) (by decide) stop
  have hleft := getD_range (P := fun x : Int => -1024 ≤ x ∧ x ≤ 2047) (old := 0) (by decide) sleft
  have hheight := getD_range (P := (· ≤ 576)) (old := 0) (by decide) fun x hx => (sheight x hx).2
  have hwidth := getD_range (P := (· ≤ 1024)) (old := 0) (by decide) fun x hx => (swidth x hx).2
  have htrans := getD_range (P := fun t : Option Nat => ∀ x, t = some x → x ≤ 15) (old := some 0) (by simp)
    fun t ht x hx => strans x (hx ▸ ht)
  have hmix := getD_range (P := (· ≤ 16)) (old := 0) (by decide) smix
  have hfade := getD_range (P := (· ≤ 15)) (old := 0) (by decide) sfade
  have hlife := getD_range (P := (· ≤ 65535)) (old := 0) (by decide) slife
  have hrow := getD_range (P := fun x : Int => -16 ≤ x ∧ x ≤ 15) (old := 0) (by decide) srow
  have hcol := getD_range (P := fun x : Int => -32 ≤ x ∧ x ≤ 31) (old := 0) (by decide) scol
  have hstopRow := getD_range (P := fun t : Option Int => ∀ x, t = some x → -1024 ≤ x ∧ x ≤ 2047) (old := some 0) (by simp)
    fun t ht x hx => sstopRow x (hx ▸ ht)
  have hstopCol := getD_range (P := fun t : Option Int => ∀ x, t = some x → -1024 ≤ x ∧ x ≤ 2047) (old := some 0) (by simp)
    fun t ht x hx => sstopCol x (hx ▸ ht)
  obtain ⟨b0, b1, hb, hbn⟩ := le16_spec (n := selectBits f % 65536) (by omega)
  obtain ⟨t0, t1, ht, htn⟩ := le16i_spec (x := f.top.getD 0) (by omega) (by omega)
  obtain ⟨x0, x1, hx, hxn⟩ := le16i_spec (x := f.left.getD 0) (by omega) (by omega)
  obtain ⟨y0, y1, hy, hyn⟩ := le16_spec (n := f.height.getD 0) (by omega)
  obtain ⟨w0, w1, hw, hwn⟩ := le16_spec (n := f.width.getD 0) (by omega)
  obtain ⟨l0, l1, hl, hln⟩ := le16_spec (n := f.lifetime.getD 0) (by omega)
  obtain ⟨r0, r1, hrs, hrnone, hrsome⟩ := stopBytes_spec hstopRow
  obtain ⟨c0, c1, hcs, hcnone, hcsome⟩ := stopBytes_spec hstopCol
  have hhigh : (byteOf (selectBits f / 65536)).toNat = selectBits f / 65536 := byteOf_toNat (by omega)
  have hlist : amendBytes tag f =
      [tag, b0, b1, byteOf (selectBits f / 65536), byteOf (f.group.getD 0), byteOf (f.layer.getD 0), t0, t1, x0, x1, y0, y1, w0, w1,
       byteOf (keyModeCode (f.keyMode.getD .box)), byteOf ((f.transIndex.getD (some 0)).getD 16), byteOf (f.fadeStep.getD 0), l0, l1,
       byteOfInt (f.rowRate.getD 0), byteOfInt (f.colRate.getD 0), r0, r1, c0, c1,
       byteOf (notifyCode (f.notify.getD { shown := false, closed := false, stopped := false })),
       byteOf (f.holdInSlew.getD false).toNat, byteOf (f.closeAtStop.getD false).toNat, byteOf (f.mixTarget.getD 0)] := by
    unfold amendBytes
    rw [hb, ht, hx, hy, hw, hl, hrs, hcs]
    simp only [bitVal_eq, Nat.pow_zero, Nat.one_mul, List.cons_append, List.nil_append]
  rw [hlist]
  exact ⟨rfl,
    { tag := rfl
      select := show b0.toNat + 256 * b1.toNat + 65536 * (byteOf (selectBits f / 65536)).toNat = selectBits f by omega
      group := byteOf_toNat (Nat.le_trans hgroup (by decide))
      layer := byteOf_toNat (Nat.le_trans hlayer (by decide))
      top := sop16_of_bytes rfl rfl htn
      left := sop16_of_bytes rfl rfl hxn
      height := hyn
      width := hwn
      keyMode := byteOf_toNat (Nat.le_trans (keyModeCode_le _) (by decide))
      transIndex := byteOf_toNat (Nat.le_trans (transIndex_le htrans) (by decide))
      fadeStep := byteOf_toNat (Nat.le_trans hfade (by decide))
      lifetime := hln
      rowRate := byteOfInt_toInt (by omega) (by omega)
      colRate := byteOfInt_toInt (by omega) (by omega)
      stopRow := stopReads_of_bytes rfl rfl hstopRow hrnone hrsome
      stopCol := stopReads_of_bytes rfl rfl hstopCol hcnone hcsome
      notify := byteOf_toNat (Nat.le_trans (notifyCode_le _) (by decide))
      holdInSlew := byteOf_toNat (Nat.le_trans (Bool.toNat_le _) (by decide))
      closeAtStop := byteOf_toNat (Nat.le_trans (Bool.toNat_le _) (by decide))
      mixTarget := byteOf_toNat (Nat.le_trans hmix (by decide)) }⟩

section
variable {tag : Byte} {f : FieldSelect} {ops : List Byte}

/-- A field is named exactly when the set holds a value for it. -/
theorem AmendReads.has (e : AmendReads tag f ops) (k : Fin 18) : amendHas ops k.val = selectedFields f k := by
  rw [amendHas, e.select, selectBits_eq, Nat.testBit_ofBits_lt _ _ k.isLt]

/-- A field that is not selected is not checked; one that is passes when its value does (02 R35). -/
theorem unselected_or {α : Type} {v : Option α} {has ok : Bool} (hh : has = v.isSome) (h : ∀ x, v = some x → ok = true) :
    (!has || ok) = true := by
  subst hh
  cases v with
  | none => rfl
  | some x => exact h x rfl

/-- A selected field is picked with its value, an unselected one not at all. -/
theorem amendPick_reads {α : Type} {k : Nat} {v : Option α} {r : α} (hh : amendHas ops k = v.isSome) (h : ∀ x, v = some x → r = x) :
    amendPick ops k r = v := by
  rw [amendPick, hh]
  cases v with
  | none => rfl
  | some x => rw [h x rfl]; rfl

/-- A value read as that of the field, when the field is selected. -/
theorem getD_of_some {α : Type} {v : Option α} {r d x : α} (h : r = v.getD d) (hx : v = some x) : r = x := by
  rw [h, hx]; rfl

/-- The check of an AMEND passes: the tag, a set that names a field, and every selected value in range (02 R35). -/
theorem AmendReads.ok (e : AmendReads tag f ops) (ht : TagInRange tag) (hr : f.InRange) (hne : selectBits f ≠ 0) :
    amendOk ops = true := by
  obtain ⟨sgroup, slayer, stop, sleft, sheight, swidth, strans, smix, sfade, -, srow, scol, -, -⟩ := hr
  have htag : tagOk (opByte ops 0) = true := by rw [e.tag]; exact (tagOk_iff tag).mpr ht
  have hnonempty : (amendSelect ops != 0) = true := by rw [e.select]; exact bne_iff_ne.mpr hne
  have hsize : decide (amendSelect ops < 262144) = true := by rw [e.select]; exact decide_eq_true (selectBits_lt f)
  have htrans : ∀ t, f.transIndex = some t → transOk (op8 ops 15) = true := fun t hx => by
    rw [e.transIndex, hx]
    exact (transOf_getD fun x h => strans x (h ▸ hx)).2
  have hnotify : op8 ops 25 ≤ 7 := e.notify ▸ notifyCode_le _
  have hkey : op8 ops 14 ≤ 1 := e.keyMode ▸ keyModeCode_le _
  have hslew : op8 ops 26 ≤ 1 := e.holdInSlew ▸ Bool.toNat_le _
  have hclose : op8 ops 27 ≤ 1 := e.closeAtStop ▸ Bool.toNat_le _
  unfold amendOk
  simp only [Bool.and_eq_true]
  refine ⟨⟨⟨⟨⟨⟨⟨⟨⟨⟨⟨⟨⟨⟨⟨⟨⟨⟨⟨htag, hnonempty⟩, hsize⟩, ?_⟩, ?_⟩, ?_⟩, ?_⟩, ?_⟩, ?_⟩, ?_⟩, ?_⟩, ?_⟩, ?_⟩, ?_⟩, ?_⟩, ?_⟩, ?_⟩, ?_⟩, ?_⟩, ?_⟩
  · exact unselected_or (e.has 0) fun x hx => decide_eq_true (getD_of_some e.group hx ▸ sgroup x hx)
  · exact unselected_or (e.has 1) fun x hx => decide_eq_true (getD_of_some e.layer hx ▸ slayer x hx)
  · exact unselected_or (e.has 2) fun x hx => (coordOk_iff _).mpr (getD_of_some e.top hx ▸ stop x hx)
  · exact unselected_or (e.has 3) fun x hx => (coordOk_iff _).mpr (getD_of_some e.left hx ▸ sleft x hx)
  · exact unselected_or (e.has 4) fun x hx => (heightOk_iff _).mpr (getD_of_some e.height hx ▸ sheight x hx)
  · exact unselected_or (e.has 5) fun x hx => (widthOk_iff _).mpr (getD_of_some e.width hx ▸ swidth x hx)
  · exact unselected_or (e.has 6) fun _ _ => decide_eq_true hkey
  · exact unselected_or (e.has 7) htrans
  · exact unselected_or (e.has 8) fun x hx => decide_eq_true (getD_of_some e.mixTarget hx ▸ smix x hx)
  · exact unselected_or (e.has 9) fun x hx => decide_eq_true (getD_of_some e.fadeStep hx ▸ sfade x hx)
  · exact unselected_or (e.has 11) fun x hx => (rowRateOk_iff _).mpr (getD_of_some e.rowRate hx ▸ srow x hx)
  · exact unselected_or (e.has 12) fun x hx => (colRateOk_iff _).mpr (getD_of_some e.colRate hx ▸ scol x hx)
  · exact unselected_or (e.has 13) fun _ _ => e.stopRow.1
  · exact unselected_or (e.has 14) fun _ _ => e.stopCol.1
  · exact unselected_or (e.has 15) fun _ _ => decide_eq_true hnotify
  · exact unselected_or (e.has 16) fun _ _ => decide_eq_true hslew
  · exact unselected_or (e.has 17) fun _ _ => decide_eq_true hclose

/-- A flag reads back from the byte that holds it. -/
theorem getLsbD_of_flag {i : Nat} {x : Bool} (h : op8 ops i = x.toNat) : (opByte ops i).getLsbD 0 = x := by
  have hbyte : (opByte ops i).toNat = x.toNat := h
  refine getLsbD_of_div ?_
  have := x.toNat_le
  omega

/-- The selected fields read back with their values (09 R187). -/
theorem AmendReads.fields_eq (e : AmendReads tag f ops) (hr : f.InRange) : amendFields ops = f := by
  obtain ⟨-, -, -, -, -, -, strans, -, -, -, -, -, -, -⟩ := hr
  have hkey : keyModeOf ((opByte ops 14).getLsbD 0) = f.keyMode.getD .box := by
    have hle := keyModeCode_le (f.keyMode.getD .box)
    have hcode : (opByte ops 14).toNat = _ := e.keyMode
    exact keyModeOf_code (by omega)
  have htrans : ∀ t, f.transIndex = some t → transOf (op8 ops 15) = t := fun t hx => by
    rw [e.transIndex, hx]
    exact (transOf_getD fun x h => strans x (h ▸ hx)).1
  unfold amendFields
  cases f
  congr 1
  exacts [amendPick_reads (e.has 0) fun _ => getD_of_some e.group, amendPick_reads (e.has 1) fun _ => getD_of_some e.layer,
    amendPick_reads (e.has 2) fun _ => getD_of_some e.top, amendPick_reads (e.has 3) fun _ => getD_of_some e.left,
    amendPick_reads (e.has 4) fun _ => getD_of_some e.height, amendPick_reads (e.has 5) fun _ => getD_of_some e.width,
    amendPick_reads (e.has 6) fun _ => getD_of_some hkey, amendPick_reads (e.has 7) htrans,
    amendPick_reads (e.has 8) fun _ => getD_of_some e.mixTarget, amendPick_reads (e.has 9) fun _ => getD_of_some e.fadeStep,
    amendPick_reads (e.has 10) fun _ => getD_of_some e.lifetime, amendPick_reads (e.has 11) fun _ => getD_of_some e.rowRate,
    amendPick_reads (e.has 12) fun _ => getD_of_some e.colRate, amendPick_reads (e.has 13) fun _ => getD_of_some e.stopRow.2,
    amendPick_reads (e.has 14) fun _ => getD_of_some e.stopCol.2,
    amendPick_reads (e.has 15) fun _ => getD_of_some (notifyOf_code e.notify),
    amendPick_reads (e.has 16) fun _ => getD_of_some (getLsbD_of_flag e.holdInSlew),
    amendPick_reads (e.has 17) fun _ => getD_of_some (getLsbD_of_flag e.closeAtStop)]

end

/-! ## Cue entries -/

theorem cueActionOf_code (a : CueAction) : cueActionOf (cueActionCode a) = a := by cases a <;> rfl

theorem cueActionCode_le (a : CueAction) : cueActionCode a ≤ 8 := by cases a <;> decide

theorem cueActionCode_of_mem {a : CueAction} {n : Nat} (h : (a, n) ∈ cueActionCodes) : n = cueActionCode a := by
  cases a <;> simp [cueActionCodes] at h <;> exact h

/-- The first byte of a cue entry: the action below, the four flags above (09 R187, cue entry). -/
def cueHead (e : CueEntry) : Nat :=
  cueActionCode e.action + 16 * e.flags.wait.toNat + 32 * e.flags.halt.toNat + 64 * e.flags.end_.toNat + 128 * e.flags.notify.toNat

/-- The bytes of a cue entry as its layout gives them. -/
theorem cueEntryBytes_eq (e : CueEntry) :
    ∃ a c d : Byte, cueEntryBytes e = [a, e.operand, c, d] ∧ a.toNat = cueHead e ∧ c.toNat + 256 * d.toNat = e.parameter.toNat := by
  obtain ⟨c, d, hcd, hn⟩ := le16_spec e.parameter.isLt
  have haction := cueActionCode_le e.action
  have hwait := e.flags.wait.toNat_le
  have hhalt := e.flags.halt.toNat_le
  have hend := e.flags.end_.toNat_le
  have hnotify := e.flags.notify.toNat_le
  refine ⟨byteOf (cueHead e), c, d, ?_, byteOf_toNat (by unfold cueHead; omega), hn⟩
  simp only [cueEntryBytes, hcd, cueHead, bitVal_eq, Nat.reducePow, List.cons_append, List.nil_append]

section
variable {e : CueEntry} {a c d : Byte}

/-- The action and the flags read back from the first byte. -/
theorem cueHead_reads (h : a.toNat = cueHead e) :
    a.toNat % 16 = cueActionCode e.action ∧ a.getLsbD 4 = e.flags.wait ∧ a.getLsbD 5 = e.flags.halt ∧
      a.getLsbD 6 = e.flags.end_ ∧ a.getLsbD 7 = e.flags.notify := by
  have haction := cueActionCode_le e.action
  have hwait := e.flags.wait.toNat_le
  have hhalt := e.flags.halt.toNat_le
  have hend := e.flags.end_.toNat_le
  have hnotify := e.flags.notify.toNat_le
  unfold cueHead at h
  exact ⟨by omega, getLsbD_of_div (by omega), getLsbD_of_div (by omega), getLsbD_of_div (by omega), getLsbD_of_div (by omega)⟩

/-- A cue entry reads back from its bytes (09 R187). -/
theorem cueEntryAt_bytes (h : a.toNat = cueHead e) (hp : c.toNat + 256 * d.toNat = e.parameter.toNat) :
    cueEntryAt [a, e.operand, c, d] 0 = e := by
  obtain ⟨haction, hwait, hhalt, hend, hnotify⟩ := cueHead_reads h
  have hcode : cueActionOf (op8 [a, e.operand, c, d] 0 % 16) = e.action := (congrArg cueActionOf haction).trans (cueActionOf_code _)
  have hparameter : BitVec.ofNat 16 (op16 [a, e.operand, c, d] (0 + 2)) = e.parameter := by
    rw [show op16 [a, e.operand, c, d] (0 + 2) = e.parameter.toNat from hp, BitVec.ofNat_toNat, BitVec.setWidth_eq]
  rw [cueEntryAt, hcode, hparameter, show opByte [a, e.operand, c, d] 0 = a from rfl, hwait, hhalt, hend, hnotify]
  rfl

/-- The check of a cue entry's bytes is that of the entry's ranges (04 R82). -/
theorem cueOk_bytes (h : a.toNat = cueHead e) (hp : c.toNat + 256 * d.toNat = e.parameter.toNat) :
    cueOk [a, e.operand, c, d] 0 = e.inRange := by
  obtain ⟨haction, -⟩ := cueHead_reads h
  have hknown : op8 [a, e.operand, c, d] 0 % 16 ≤ 8 := haction ▸ cueActionCode_le e.action
  rw [cueOk, decide_eq_true hknown, cueEntryAt_bytes h hp, Bool.true_and]

/-- The bytes hold the action, the flags, the operand and the parameter where 09 R187 puts them. -/
theorem cueBytesOf_bytes (h : a.toNat = cueHead e) (hp : c.toNat + 256 * d.toNat = e.parameter.toNat) :
    CueBytesOf e [a, e.operand, c, d] := by
  refine ⟨fun n hn => ?_, rfl, hp⟩
  rw [cueActionCode_of_mem hn]
  exact h

end

/-- Settles O20: AMEND by what its bytes read, a cue entry by its four bytes. -/
theorem amendAndCueBytesReadBack : Obligations.AmendAndCueBytesReadBack := by
  refine ⟨fun tag f h0 h255 hr hne => ?_, fun e => ?_⟩
  · obtain ⟨hlength, hreads⟩ := amendBytes_reads tag hr
    exact ⟨hlength, hreads.ok ⟨h0, h255⟩ hr hne, hreads.tag, hreads.fields_eq hr⟩
  · obtain ⟨a, c, d, hbytes, ha, hp⟩ := cueEntryBytes_eq e
    rw [hbytes]
    exact ⟨rfl, cueEntryAt_bytes ha hp, cueOk_bytes ha hp, cueBytesOf_bytes ha hp⟩

end Sys2Proof.Machine
end

section
/-! PROOFS. The span list of a row: the 8 preferred candidates, in their order (03 R69 to R71). -/

namespace Sys2Proof.Machine

/-! ## Counting by rank -/

/-- The number of elements ranked above a. -/
def rankedAbove {α : Type} (s : Finset α) (rank : α → Nat) (a : α) : Nat := (s.filter fun b => rank a < rank b).card

section
variable {α : Type} {s : Finset α} {rank : α → Nat}

theorem rankedAbove_lt_of_rank_lt {a b : α} (hb : b ∈ s) (h : rank a < rank b) :
    rankedAbove s rank b < rankedAbove s rank a := by
  refine Finset.card_lt_card ((Finset.ssubset_iff_of_subset fun c hc => ?_).mpr ⟨b, by simp [hb, h], by simp⟩)
  obtain ⟨hc, hbc⟩ := Finset.mem_filter.mp hc
  exact Finset.mem_filter.mpr ⟨hc, Nat.lt_trans h hbc⟩

theorem rankedAbove_lt_card {a : α} (ha : a ∈ s) : rankedAbove s rank a < s.card :=
  Finset.card_lt_card ((Finset.ssubset_iff_of_subset (Finset.filter_subset _ _)).mpr ⟨a, ha, by simp⟩)

theorem rankedAbove_injOn (hr : Set.InjOn rank s) : Set.InjOn (rankedAbove s rank) s := fun a ha b hb h => by
  refine hr ha hb (Nat.le_antisymm (Nat.le_of_not_lt fun hlt => ?_) (Nat.le_of_not_lt fun hlt => ?_))
  · exact absurd h (Nat.ne_of_lt (rankedAbove_lt_of_rank_lt ha hlt))
  · exact absurd h (Nat.ne_of_gt (rankedAbove_lt_of_rank_lt hb hlt))

/-- Among elements of different ranks the number ranked above runs through all of 0, ..., n - 1. -/
theorem image_rankedAbove (hr : Set.InjOn rank s) : s.image (rankedAbove s rank) = Finset.range s.card := by
  refine Finset.eq_of_subset_of_card_le (fun n hn => ?_) ?_
  · obtain ⟨a, ha, rfl⟩ := Finset.mem_image.mp hn
    exact Finset.mem_range.mpr (rankedAbove_lt_card ha)
  · rw [Finset.card_range, Finset.card_image_of_injOn (rankedAbove_injOn hr)]

/-- Of n elements of different ranks, min(k, n) have fewer than k ranked above them. -/
theorem card_rankedAbove_lt (hr : Set.InjOn rank s) (k : Nat) :
    (s.filter fun a => rankedAbove s rank a < k).card = min k s.card := by
  have hinj : Set.InjOn (rankedAbove s rank) (s.filter fun a => rankedAbove s rank a < k) :=
    (rankedAbove_injOn hr).mono (Finset.coe_subset.mpr (Finset.filter_subset _ _))
  calc (s.filter fun a => rankedAbove s rank a < k).card
      = ((s.image (rankedAbove s rank)).filter (· < k)).card := by rw [Finset.filter_image, Finset.card_image_of_injOn hinj]
    _ = (Finset.range (min k s.card)).card := by
        congr 1
        ext n
        rw [image_rankedAbove hr, Finset.mem_filter, Finset.mem_range, Finset.mem_range]
        omega
    _ = min k s.card := Finset.card_range _

end

/-! ## The candidates of a row (03 R69) -/

section
variable {width r : Nat} {vs : List VisPlate}

/-- The candidates stand in the order of their slots, as the visible set does (03 R63). -/
theorem rowCandidates_pairwise (h : vs.Pairwise fun v w => v.slot < w.slot) :
    (rowCandidates width r vs).Pairwise fun a b => a.slot < b.slot := by
  refine List.Pairwise.filterMap _ (fun v w hvw a ha b hb => ?_) h
  obtain ⟨-, -, -, -, rfl⟩ := (candidateSpan_iff width r v a).mp ha
  obtain ⟨-, -, -, -, rfl⟩ := (candidateSpan_iff width r w b).mp hb
  exact hvw

theorem rowCandidates_nodup (h : vs.Pairwise fun v w => v.slot < w.slot) : (rowCandidates width r vs).Nodup :=
  (rowCandidates_pairwise h).imp fun hab heq => absurd (heq ▸ hab) (Nat.lt_irrefl _)

/-- No two candidates share a slot. -/
theorem rowCandidates_slot_injOn (h : vs.Pairwise fun v w => v.slot < w.slot) :
    Set.InjOn Span.slot {a | a ∈ rowCandidates width r vs} := fun _ ha _ hb =>
  List.inj_on_of_nodup_map (List.pairwise_map.mpr ((rowCandidates_pairwise h).imp ne_of_lt)) ha hb

end

/-- A row overflows exactly when more than 8 different spans are candidates for it (03 R71). -/
theorem rowOverflows_iff {width r : Nat} {vs : List VisPlate} (h : vs.Pairwise fun v w => v.slot < w.slot) :
    rowOverflows width r vs = true ↔
      ∃ cs : List Span, 8 < cs.length ∧ cs.Nodup ∧ ∀ a ∈ cs, ∃ v ∈ vs, CandidateFor width r v a := by
  rw [rowOverflows, decide_eq_true_iff]
  constructor
  · exact fun hlen => ⟨_, hlen, rowCandidates_nodup h, fun a ha => (mem_rowCandidates width r vs a).mp ha⟩
  · rintro ⟨cs, hlen, hnodup, hcs⟩
    have hsub : cs ⊆ rowCandidates width r vs := fun a ha => (mem_rowCandidates width r vs a).mpr (hcs a ha)
    exact Nat.lt_of_lt_of_le hlen (hnodup.subperm hsub).length_le

/-! ## Preference (03 R71) -/

/-- The preference of 03 R71 as one number: the higher layer first, then the lower slot. -/
def Span.rank (a : Span) : Nat := a.layer * 32 + (31 - a.slot.val)

theorem keptBefore_iff_rank (a b : Span) : keptBefore a b = true ↔ a.rank < b.rank := by
  have ha := a.slot.isLt
  have hb := b.slot.isLt
  simp only [keptBefore, Span.rank, Bool.or_eq_true, Bool.and_eq_true, decide_eq_true_eq, beq_iff_eq]
  omega

theorem keptOver_iff_rank (a b : Span) : KeptOver b a ↔ a.rank < b.rank := by
  rw [← keptBefore_iff_rank]
  simp only [keptBefore, KeptOver, Bool.or_eq_true, Bool.and_eq_true, decide_eq_true_eq, beq_iff_eq, Fin.lt_def]

theorem slot_eq_of_rank_eq {a b : Span} (h : a.rank = b.rank) : a.slot = b.slot := by
  have ha := a.slot.isLt
  have hb := b.slot.isLt
  unfold Span.rank at h
  exact Fin.ext (by omega)

/-! ## The spans kept (03 R71) -/

/-- The candidates preferred to a. -/
def preferredTo (cs : List Span) (a : Span) : List Span := cs.filter fun b => keptBefore a b

theorem mem_keptSpans {cs : List Span} {a : Span} : a ∈ keptSpans cs ↔ a ∈ cs ∧ (preferredTo cs a).length < 8 := by
  rw [keptSpans, List.mem_filter, decide_eq_true_iff]
  rfl

/-- Of different spans, those preferred to a are the ones that its rank counts. -/
theorem preferredTo_length {cs : List Span} (hn : cs.Nodup) (a : Span) :
    (preferredTo cs a).length = rankedAbove cs.toFinset Span.rank a := by
  have hset : (preferredTo cs a).toFinset = cs.toFinset.filter fun b => a.rank < b.rank := by
    ext b
    simp [preferredTo, keptBefore_iff_rank]
  rw [rankedAbove, ← hset]
  exact (List.toFinset_card_of_nodup (hn.filter _)).symm

/-- What is preferred to b is preferred to whatever ranks no higher. -/
theorem preferredTo_length_le {cs : List Span} {a b : Span} (h : a.rank ≤ b.rank) :
    (preferredTo cs b).length ≤ (preferredTo cs a).length := by
  refine (List.monotone_filter_right cs fun c hc => ?_).length_le
  rw [keptBefore_iff_rank] at hc ⊢
  exact Nat.lt_of_le_of_lt h hc

/-- Of candidates with different slots, the 8 preferred ones are kept, or all when there are fewer (03 R71). -/
theorem keptSpans_length {cs : List Span} (hn : cs.Nodup) (hs : Set.InjOn Span.slot {a | a ∈ cs}) :
    (keptSpans cs).length = min 8 cs.length := by
  have hrank : Set.InjOn Span.rank (cs.toFinset : Set Span) := fun a ha b hb hab =>
    hs (List.mem_toFinset.mp ha) (List.mem_toFinset.mp hb) (slot_eq_of_rank_eq hab)
  have hkept : (keptSpans cs).toFinset = cs.toFinset.filter fun a => rankedAbove cs.toFinset Span.rank a < 8 := by
    ext a
    simp only [List.mem_toFinset, mem_keptSpans, Finset.mem_filter, preferredTo_length hn]
  calc (keptSpans cs).length
      = (keptSpans cs).toFinset.card := (List.toFinset_card_of_nodup (hn.filter _)).symm
    _ = min 8 cs.toFinset.card := by rw [hkept, card_rankedAbove_lt hrank]
    _ = min 8 cs.length := by rw [List.toFinset_card_of_nodup hn]

/-- A candidate that is not kept gives way to 8 spans preferred to it (03 R71). -/
theorem keptSpans_full {cs : List Span} (hn : cs.Nodup) (hs : Set.InjOn Span.slot {a | a ∈ cs}) {a : Span} (ha : a ∈ cs)
    (hout : a ∉ keptSpans cs) : (keptSpans cs).length = 8 ∧ ∀ b ∈ keptSpans cs, KeptOver b a := by
  have hmany : 8 ≤ (preferredTo cs a).length := Nat.le_of_not_lt fun h => hout (mem_keptSpans.mpr ⟨ha, h⟩)
  constructor
  · have hall : (preferredTo cs a).length ≤ cs.length := List.length_filter_le _ _
    rw [keptSpans_length hn hs]
    omega
  · intro b hb
    rw [keptOver_iff_rank]
    by_contra hle
    have hfew := (mem_keptSpans.mp hb).2
    have hmore := preferredTo_length_le (cs := cs) (Nat.le_of_not_lt hle)
    omega

/-! ## The span list -/

/-- The order of a span list as 03 R70 words it. -/
theorem spanBefore_iff (a b : Span) :
    spanBefore a b = true ↔ a.leftCol < b.leftCol ∨ (a.leftCol = b.leftCol ∧ b.layer ≤ a.layer) := by
  simp only [spanBefore, Bool.or_eq_true, Bool.and_eq_true, decide_eq_true_eq]

theorem spanList_perm (width r : Nat) (vs : List VisPlate) : (spanList width r vs).Perm (keptSpans (rowCandidates width r vs)) :=
  sortSpans_perm _

/-- Settles O48: the list is the kept candidates sorted, and the kept ones are counted by their rank. -/
theorem spanListKeepsEightInOrder : Obligations.SpanListKeepsEightInOrder := by
  rintro width r vs l hslots rfl
  have hperm := spanList_perm width r vs
  have hn : (rowCandidates width r vs).Nodup := rowCandidates_nodup hslots
  have hs := rowCandidates_slot_injOn (width := width) (r := r) hslots
  refine ⟨?_, hperm.nodup_iff.mpr (hn.filter _), fun a ha => mem_spanList ha, ?_, fun v hv a hva => ?_, rowOverflows_iff hslots⟩
  · rw [hperm.length_eq, keptSpans_length hn hs]
    exact Nat.min_le_left _ _
  · exact (sortSpans_sorted _).imp fun h => (spanBefore_iff _ _).mp h
  · by_cases hkept : a ∈ keptSpans (rowCandidates width r vs)
    · exact .inl (hperm.mem_iff.mpr hkept)
    · obtain ⟨hlen, hover⟩ := keptSpans_full hn hs ((mem_rowCandidates width r vs a).mpr ⟨v, hv, hva⟩) hkept
      exact .inr ⟨hperm.length_eq.trans hlen, fun b hb => hover b (hperm.mem_iff.mp hb)⟩

end Sys2Proof.Machine
end

section
/-! PROOFS. KEY at a pixel and TALLY (03 R65, R72 to R75). -/

namespace Sys2Proof.Machine

/-! ## The contribution of a span (03 R72) -/

section
variable {live : Vector Nat 16} {i : Fin 16} {sp : Span}

theorem contribution_box (h : sp.keyMode = .box) : contribution live i sp = sp.mix := by
  rw [contribution, h]

theorem contribution_transparent (h : sp.keyMode = .index) (ht : sp.transIndex = some i.val) : contribution live i sp = 0 := by
  rw [contribution, h]
  exact if_pos ht

theorem contribution_index (h : sp.keyMode = .index) (ht : sp.transIndex ≠ some i.val) :
    contribution live i sp = sp.mix * live.get i / 4 := by
  rw [contribution, h]
  exact if_neg ht

end

/-! ## KEY from the spans (03 R73) -/

/-- The span covers column c and contributes there at colour index i. -/
def Span.Gives (sp : Span) (live : Vector Nat 16) (c : Int) (i : Fin 16) : Prop :=
  sp.leftCol ≤ c ∧ c ≤ sp.rightCol ∧ 0 < contribution live i sp

section
variable {live : Vector Nat 16} {spans : List Span} {c : Int} {i : Fin 16}

/-- The search of one layer asks for a span of it that gives a contribution. -/
theorem layerTest_iff (live : Vector Nat 16) (c : Int) (i : Fin 16) (l : Nat) (sp : Span) :
    (sp.layer == l && sp.covers c && decide (0 < contribution live i sp)) = true ↔ sp.layer = l ∧ sp.Gives live c i := by
  simp only [Span.covers, Span.Gives, Bool.and_eq_true, beq_iff_eq, decide_eq_true_eq, and_assoc]

theorem layerKey_eq_none {l : Nat} :
    layerKey live spans c i l = none ↔ ∀ sp ∈ spans, sp.Gives live c i → sp.layer ≠ l := by
  simp only [layerKey, Option.map_eq_none_iff, List.find?_eq_none, layerTest_iff]
  exact ⟨fun h sp hsp hg hl => h sp hsp ⟨hl, hg⟩, fun h sp hsp hlg => h sp hsp hlg.2 hlg.1⟩

theorem layerKey_eq_some {l k : Nat} (h : layerKey live spans c i l = some k) :
    ∃ sp ∈ spans, sp.layer = l ∧ sp.Gives live c i ∧ k = contribution live i sp := by
  obtain ⟨sp, hfind, rfl⟩ := Option.map_eq_some_iff.mp h
  have htest := List.find?_some hfind
  obtain ⟨hl, hg⟩ := (layerTest_iff live c i l sp).mp htest
  exact ⟨sp, List.mem_of_find?_eq_some hfind, hl, hg, rfl⟩

/-- KEY is the contribution of a span on the highest layer that gives one, or 0 when no layer does (03 R73). -/
theorem spanKey_cases (live : Vector Nat 16) (spans : List Span) (c : Int) (i : Fin 16) :
    (spanKey live spans c i = 0 ∧ ∀ sp ∈ spans, sp.Gives live c i → 3 < sp.layer) ∨
      ∃ sp ∈ spans, sp.Gives live c i ∧ spanKey live spans c i = contribution live i sp ∧
        ∀ sq ∈ spans, sq.Gives live c i → sq.layer ≤ 3 → sq.layer ≤ sp.layer := by
  have hlayers : ∀ l ≤ 3, l ∈ [3, 2, 1, 0] := by decide
  unfold spanKey
  cases hfound : [3, 2, 1, 0].findSome? (layerKey live spans c i) with
  | none =>
    refine .inl ⟨rfl, fun sp hsp hg => Nat.lt_of_not_le fun hl => ?_⟩
    exact layerKey_eq_none.mp (List.findSome?_eq_none_iff.mp hfound _ (hlayers _ hl)) sp hsp hg rfl
  | some k =>
    obtain ⟨above, l, below, hsplit, hk, habove⟩ := List.findSome?_eq_some_iff.mp hfound
    obtain ⟨sp, hsp, rfl, hg, rfl⟩ := layerKey_eq_some hk
    have hdescend : (above ++ sp.layer :: below).Pairwise (· > ·) := hsplit ▸ by decide
    have hbelow := (List.pairwise_cons.mp (List.pairwise_append.mp hdescend).2.1).1
    refine .inr ⟨sp, hsp, hg, rfl, fun sq hsq hgq hl => ?_⟩
    have hmem := hlayers _ hl
    rw [hsplit, List.mem_append, List.mem_cons] at hmem
    rcases hmem with ha | heq | hb
    · exact absurd rfl (layerKey_eq_none.mp (habove _ ha) sq hsq hgq)
    · exact Nat.le_of_eq heq
    · exact Nat.le_of_lt (hbelow _ hb)

/-- Nothing gives a contribution: KEY is 0 (03 R73). -/
theorem spanKey_nothing (h : ∀ sp ∈ spans, sp.leftCol ≤ c → c ≤ sp.rightCol → contribution live i sp = 0) :
    spanKey live spans c i = 0 := by
  rcases spanKey_cases live spans c i with ⟨hzero, -⟩ | ⟨sp, hsp, ⟨hleft, hright, hpos⟩, -⟩
  · exact hzero
  · exact absurd (h sp hsp hleft hright) (Nat.ne_of_gt hpos)

/-- The span that gives a contribution above all others gives KEY (03 R73). -/
theorem spanKey_highest {sp : Span} (hsp : sp ∈ spans) (hg : sp.Gives live c i) (hl : sp.layer ≤ 3)
    (h : ∀ sq ∈ spans, sq ≠ sp → sq.Gives live c i → sq.layer < sp.layer) :
    spanKey live spans c i = contribution live i sp := by
  rcases spanKey_cases live spans c i with ⟨-, hnone⟩ | ⟨sq, hsq, hgq, hkey, hmax⟩
  · exact absurd hl (Nat.not_le_of_lt (hnone sp hsp hg))
  · by_cases heq : sq = sp
    · rw [hkey, heq]
    · exact absurd (hmax sp hsp hg hl) (Nat.not_le_of_lt (h sq hsq heq hgq))

theorem spanKey_le (hmix : ∀ sp ∈ spans, sp.mix ≤ 16) (hlive : ∀ j, live.get j ≤ 4) : spanKey live spans c i ≤ 16 := by
  rcases spanKey_cases live spans c i with ⟨hzero, -⟩ | ⟨sp, hsp, -, hkey, -⟩
  · rw [hzero]
    exact Nat.zero_le _
  · rw [hkey]
    exact contribution_le i (hmix sp hsp) hlive

end

/-! ## KEY on the line (03 R68, R74, R75) -/

/-- TALLY is High exactly while the visible set holds a plate (03 R65). -/
theorem tally_iff (s : State) : s.tally = true ↔ s.keyer.visible ≠ [] := by
  simp [State.tally]

section
variable {s : State} {c : Int} {i : Fin 16}

/-- On a blanking line KEY is 0. -/
theorem keyAt_blanking (h : s.keyer.row = none) : s.keyAt c i = 0 := by
  rw [State.keyAt, h]

/-- Outside the picture columns KEY is 0. -/
theorem keyAt_outside (h : ¬ (0 ≤ c ∧ c < s.raster.width)) : s.keyAt c i = 0 := by
  unfold State.keyAt
  split
  · rfl
  · exact if_neg h

/-- At a picture pixel the line's decision is KEY's. -/
theorem keyAt_picture {r : Nat} (hr : s.keyer.row = some r) (h : 0 ≤ c ∧ c < s.raster.width) :
    (s.keyer.decision = .zero → s.keyAt c i = 0) ∧ (s.keyer.decision = .full → s.keyAt c i = 16) ∧
      (s.keyer.decision = .normal → s.keyAt c i = spanKey s.keyer.live s.keyer.spans c i) := by
  simp only [State.keyAt, hr, if_pos h]
  exact ⟨fun hd => by rw [hd], fun hd => by rw [hd], fun hd => by rw [hd]⟩

theorem keyAt_le (hmix : ∀ sp ∈ s.keyer.spans, sp.mix ≤ 16) (hlive : ∀ j, s.keyer.live.get j ≤ 4) : s.keyAt c i ≤ 16 := by
  cases hr : s.keyer.row with
  | none => simp [keyAt_blanking hr]
  | some r =>
    by_cases hc : 0 ≤ c ∧ c < s.raster.width
    · obtain ⟨hzero, hfull, hnormal⟩ := keyAt_picture (i := i) hr hc
      cases hd : s.keyer.decision with
      | zero => simp [hzero hd]
      | full => simp [hfull hd]
      | normal => simpa [hnormal hd] using spanKey_le hmix hlive
    · simp [keyAt_outside hc]

end

/-- Settles O49: contributions by key mode, KEY by the line's decision and by the highest layer that gives a contribution. -/
theorem keyIsTheHighestContribution : Obligations.KeyIsTheHighestContribution := by
  refine ⟨fun live i sp => ⟨contribution_box, contribution_transparent, contribution_index⟩, tally_iff,
    fun s c i => ⟨?_, fun r hr h0 hw => ?_, keyAt_le⟩⟩
  · rintro (hrow | hleft | hright)
    · exact keyAt_blanking hrow
    · exact keyAt_outside fun h => absurd h.1 (Int.not_le_of_gt hleft)
    · exact keyAt_outside fun h => absurd h.2 (Int.not_lt_of_ge hright)
  · obtain ⟨hzero, hfull, hnormal⟩ := keyAt_picture (i := i) hr ⟨h0, hw⟩
    refine ⟨hzero, hfull, fun hd => ?_⟩
    rw [hnormal hd]
    exact ⟨spanKey_nothing, fun sp hsp hleft hright hpos hl h => spanKey_highest hsp ⟨hleft, hright, hpos⟩ hl
      fun sq hsq hne hg => h sq hsq hne hg.1 hg.2.1 hg.2.2⟩

end Sys2Proof.Machine
end

section
/-! PROOFS. Every block at power-on (03 R78; 04 R104; 05 R117; 06 R130; 07 R155; 08 R169, R171; 09 R186; 10 R194). -/

namespace Sys2Proof.Machine

theorem level_powerOn (i : Fin 16) : Keyer.reset.live.get i = 4 ∧ Keyer.reset.pendingLevels.get i = 4 :=
  ⟨Vector.get_replicate .., Vector.get_replicate ..⟩

theorem cueEntry_powerOn (i : CueIndex) : Sequencer.reset.cues.get i = CueEntry.reset := Vector.get_replicate ..

/-- Settles O3: the state after a power-on is the reset state with the commands that wait, read off block by block. -/
theorem powerOnSetsEveryBlock : Obligations.PowerOnSetsEveryBlock := by
  intro s
  refine ⟨State.reset.withPending s.pending, execPowerOnReset_eq s, rfl, ?port, ?keyer, ?sequencer, scenes_powerOn, ?clock,
    ?controller, ?raster, ?resetLine, attention_powerOn, rfl⟩
  case port => exact ⟨rfl, rfl, rfl, rfl⟩
  case keyer =>
    exact ⟨fun i => (level_powerOn i).1, fun i => (level_powerOn i).2, rfl, rfl, rfl, rfl, fun c i => keyAt_blanking rfl⟩
  case sequencer => exact ⟨cueEntry_powerOn, rfl, rfl, rfl, rfl, rfl, rfl, rfl⟩
  case clock => and_intros <;> rfl
  case controller => and_intros <;> rfl
  case raster => and_intros <;> rfl
  case resetLine => exact ⟨rfl, rfl, rfl, rfl, rfl⟩

end Sys2Proof.Machine
end

section
/-! PROOFS. LINE START: the next line, its picture row, its span list and the fallback decision (03 R68, R71, R75; 08 R156 to
R159). -/

namespace Sys2Proof.Machine

/-! ## Picture rows (08 R157) -/

section
variable {std : Standard} {line : Nat}

/-- The picture lines of the FIRST field carry the even rows. -/
theorem rowOfLine_firstField (h : pictureTop std ≤ line) (h' : line < pictureTop std + pictureLines std) :
    rowOfLine std line = some (2 * (line - pictureTop std)) := by
  have hfield : line < secondStart std := Nat.lt_of_lt_of_le h' (by cases std <;> decide)
  simp [rowOfLine, fieldLine, lineIdentity, fieldStart, hfield, h, h']

/-- The picture lines of the SECOND field carry the odd rows. -/
theorem rowOfLine_secondField (h : secondStart std + pictureTop std ≤ line)
    (h' : line < secondStart std + pictureTop std + pictureLines std) :
    rowOfLine std line = some (2 * (line - (secondStart std + pictureTop std)) + 1) := by
  have hfield : ¬ line < secondStart std := by omega
  have hband : pictureTop std ≤ line - secondStart std ∧ line - secondStart std < pictureTop std + pictureLines std := by omega
  simp [rowOfLine, fieldLine, lineIdentity, fieldStart, hfield, hband, Nat.sub_sub]

/-- The lines above, between and below the two picture bands carry no row. -/
theorem rowOfLine_blanking
    (h : line < pictureTop std ∨ (pictureTop std + pictureLines std ≤ line ∧ line < secondStart std + pictureTop std) ∨
      secondStart std + pictureTop std + pictureLines std ≤ line) : rowOfLine std line = none := by
  refine if_neg fun hband => ?_
  have hbands : pictureTop std + pictureLines std ≤ secondStart std := by cases std <;> decide
  unfold fieldLine lineIdentity at hband
  split at hband <;> simp only [fieldStart] at hband <;> omega

end

/-! ## The start of a line taken (03 R68; 08 R157) -/

theorem takeLineStart_raster (s : State) :
    (takeLineStart s).raster =
      { s.raster with startDue := false, width := s.raster.params.activeWidth }.countSegment s.rlc.lock := rfl

/-- The Keyer is keyed at the row of the line, under the parameters' active width (03 R68; 08 R157, R170). -/
theorem takeLineStart_keyer (s : State) :
    (takeLineStart s).keyer =
      keyLine s.keyer s.rlc.lock s.raster.params.activeWidth (rowOfLine s.raster.std s.raster.line) := by
  unfold takeLineStart
  rw [Raster.countSegment_frame]
  rfl

/-- The attention unit at a line start: SPAN OVERFLOW or nothing (03 R71). -/
theorem takeLineStart_att (s : State) :
    (takeLineStart s).att =
      s.att.occurAll (overflowNotice s.keyer s.raster.params.activeWidth (rowOfLine s.raster.std s.raster.line)) := by
  unfold takeLineStart
  rw [Raster.countSegment_frame]
  rfl

/-- The raster at the start of a line, counted. -/
def Raster.lineBegun (r : Raster) (lock : LockState) (line : Nat) (pos posTime : Int) : Raster :=
  { r with line := line, startDue := false, width := r.params.activeWidth, pos := pos, posTime := posTime }.countSegment lock

/-- What LINE START makes of the blocks at the line it begins (03 R68; 08 R157). -/
theorem takeLineStart_at (s : State) (line : Nat) (pos posTime : Int) :
    takeLineStart (s.withRaster { s.raster with line := line, startDue := true, pos := pos, posTime := posTime }) = { s with
      raster := s.raster.lineBegun s.rlc.lock line pos posTime
      keyer := keyLine s.keyer s.rlc.lock s.raster.params.activeWidth (rowOfLine s.raster.std line)
      att := s.att.occurAll (overflowNotice s.keyer s.raster.params.activeWidth (rowOfLine s.raster.std line)) } := by
  rw [takeLineStart_frame, takeLineStart_raster, takeLineStart_keyer, takeLineStart_att]
  rfl

/-! ## Moving to the line (log 5, log 7) -/

/-- The raster stands at a line start: it is the next one taken. -/
theorem moveToLineStart_due {s : State} (h : s.raster.startDue = true) : moveToLineStart s = s := if_pos h

/-- Within a field the next line begins at the end of the line in progress, with the position that is over (08 R156, R159). -/
theorem moveToLineStart_next {s : State} (h : s.raster.startDue = false) (he : s.raster.atFieldEnd = false) :
    moveToLineStart s = s.withRaster { s.raster with
      line := s.raster.line + 1, startDue := true, posTime := s.raster.lineEnd
      pos := s.raster.pos + (s.raster.lineEnd - s.raster.posTime) * (1048576 + s.raster.offset) - s.raster.line16 * 1048576 } := by
  simp only [moveToLineStart, Raster.toLine, h, he, Bool.false_eq_true, if_false]
  rfl

theorem moveToLineStart_fieldEnd {s : State} (h : s.raster.fieldEnds = true) : moveToLineStart s = endField s := by
  obtain ⟨hend, hdue⟩ : s.raster.atFieldEnd = true ∧ s.raster.startDue = false := by simpa [Raster.fieldEnds] using h
  simp [moveToLineStart, hend, hdue]

/-- The line that the next LINE START begins, and the position and moment at which it begins. -/
def Raster.NextLine (r : Raster) (line : Nat) (pos posTime : Int) : Prop :=
  (r.startDue = true ∧ line = r.line ∧ pos = r.pos ∧ posTime = r.posTime) ∨
    (r.startDue = false ∧ r.atFieldEnd = false ∧ line = r.line + 1 ∧ posTime = r.lineEnd ∧
      pos = r.pos + (r.lineEnd - r.posTime) * (1048576 + r.offset) - r.line16 * 1048576)

theorem moveToLineStart_eq {s : State} {line : Nat} {pos posTime : Int} (h : s.raster.NextLine line pos posTime) :
    moveToLineStart s = s.withRaster { s.raster with line := line, startDue := true, pos := pos, posTime := posTime } := by
  rcases h with ⟨hdue, rfl, rfl, rfl⟩ | ⟨hdue, hend, rfl, rfl, rfl⟩
  · rw [moveToLineStart_due hdue, ← hdue]
    rfl
  · exact moveToLineStart_next hdue hend

/-- No timeout align comes in place of a line start that is due (08 R165). -/
theorem timeoutNow_of_startDue {r : Raster} (h : r.startDue = true) : r.timeoutNow = false := by
  simp [Raster.timeoutNow, h]

theorem nextLineStart_of_noTimeout {s : State} (h : s.raster.timeoutNow = false) :
    nextLineStart s = takeLineStart (moveToLineStart s) := by
  rw [nextLineStart, h]
  rfl

/-- The next line start of a raster that has no timeout align due, inside a field (03 R68; 08 R157). -/
theorem nextLineStart_eq {s : State} {line : Nat} {pos posTime : Int} (hn : s.raster.timeoutNow = false)
    (h : s.raster.NextLine line pos posTime) :
    nextLineStart s = { s with
      raster := s.raster.lineBegun s.rlc.lock line pos posTime
      keyer := keyLine s.keyer s.rlc.lock s.raster.params.activeWidth (rowOfLine s.raster.std line)
      att := s.att.occurAll (overflowNotice s.keyer s.raster.params.activeWidth (rowOfLine s.raster.std line)) } := by
  rw [nextLineStart_of_noTimeout hn, moveToLineStart_eq h, takeLineStart_at]

/-- The field's end leaves the raster at a line start that is due (08 R158; log 7). -/
theorem endField_startDue (s : State) : (endField s).raster.startDue = true := by
  show ((takeBoundary s).raster.toLine _).startDue = true
  unfold Raster.toLine
  split
  · assumption
  · rfl

/-- At a field's last line the next line start is that of the state after the boundary (08 R158; log 7). -/
theorem nextLineStart_fieldEnd {s : State} (hn : s.raster.timeoutNow = false) (h : s.raster.fieldEnds = true) :
    nextLineStart s = nextLineStart (endField s) := by
  have hdue := endField_startDue s
  rw [nextLineStart_of_noTimeout hn, moveToLineStart_fieldEnd h, nextLineStart_of_noTimeout (timeoutNow_of_startDue hdue),
    moveToLineStart_due hdue]

theorem execFieldBoundary_fieldEnd {s : State} (h : s.raster.fieldEnds = true) : exec .fieldBoundary s = .next (endField s) :=
  congrArg Host.Outcome.next (if_pos h)

/-- With no MARK A event waiting, a segment end that is due comes first (log 8, log 12). -/
theorem execLineStart_noMark {s : State} (h : s.seq.marksDue = 0) :
    exec .lineStart s = .next (nextLineStart (settleSegments s)) := by
  show Host.Outcome.next (nextLineStart (settleSegments (settleMark s))) = _
  rw [settleMark_none h]

/-! ## The fallback decision and the overflow (03 R71, R75) -/

theorem fallbackDecision_normal {lock : LockState} {mode : Fallback} (h : lock = .frameLock ∨ lock = .flywheel ∨ mode = .keep) :
    fallbackDecision lock mode = .normal := by
  rcases h with rfl | rfl | rfl
  · rfl
  · rfl
  · cases lock <;> rfl

theorem fallbackDecision_unlocked {lock : LockState} (h : lock = .search ∨ lock = .lineLock) (mode : Fallback) :
    (mode = .cut → fallbackDecision lock mode = .zero) ∧ (mode = .full → fallbackDecision lock mode = .full) := by
  rcases h with rfl | rfl
  · exact ⟨by rintro rfl; rfl, by rintro rfl; rfl⟩
  · exact ⟨by rintro rfl; rfl, by rintro rfl; rfl⟩

/-- SPAN OVERFLOW occurs at a row exactly when it overflows (03 R71). -/
theorem occurAll_overflowNotice (a : Attention) (k : Keyer) (width r : Nat) :
    (rowOverflows width r k.visible = true →
        a.occurAll (overflowNotice k width (some r)) = a.occur (.spanOverflow r k.fieldNumber)) ∧
      (rowOverflows width r k.visible = false → a.occurAll (overflowNotice k width (some r)) = a) := by
  constructor <;> intro h <;> simp [overflowNotice, h]

/-- Settles O47: the line start by the line it begins, the field's end by its boundary, time and position by their laws, and
the picture rows by field. -/
theorem lineStartKeysTheLine : Obligations.LineStartKeysTheLine := by
  refine ⟨?lineStart, ?fieldEnd, fun s => execLineStart_noMark, fun r e h => Raster.lineEnd_iff h e, ?position,
    fun line => ?rows⟩
  case lineStart =>
    rintro s u line row e pos posTime hseg htimeout rfl hnext rfl hu
    have heq := hu.trans (nextLineStart_eq htimeout hnext)
    refine ⟨fun hmark => ?_, ?_, ?_, ?_, fun hrow => ?_, fun r hrow => ?_, fun h => ?_, fun h => ?_⟩
    · rw [execLineStart_noMark hmark, settleSegments_none hseg, hu]
    · rw [heq]
    · rw [heq]
      rfl
    · rw [heq]
      rfl
    · rw [heq, hrow]
      exact ⟨rfl, rfl⟩
    · rw [heq, hrow]
      exact ⟨rfl, occurAll_overflowNotice _ _ _ _⟩
    · rw [heq]
      exact fallbackDecision_normal h
    · rw [heq]
      exact fallbackDecision_unlocked h _
  case fieldEnd =>
    intro s u hmark hseg htimeout hlast hboundary
    have hends := (lastFieldLine_iff _).mp hlast
    obtain rfl : endField s = u := Host.Outcome.next.inj ((execFieldBoundary_fieldEnd hends).symm.trans hboundary)
    rw [execLineStart_noMark hmark, settleSegments_none hseg, nextLineStart_fieldEnd htimeout hends]
  case position =>
    rintro r t x hr rfl
    exact Raster.outAt_spec hr t
  case rows =>
    refine ⟨fun h h' => rowOfLine_firstField h (Nat.lt_succ_of_le h'), fun h h' => rowOfLine_secondField h (Nat.lt_succ_of_le h'),
      fun h => rowOfLine_blanking ?_, fun h h' => rowOfLine_firstField h (Nat.lt_succ_of_le h'),
      fun h h' => rowOfLine_secondField h (Nat.lt_succ_of_le h'), fun h => rowOfLine_blanking ?_⟩
    · show line < 23 ∨ (311 ≤ line ∧ line < 336) ∨ 624 ≤ line
      omega
    · show line < 20 ∨ (260 ≤ line ∧ line < 283) ∨ 523 ≤ line
      omega

end Sys2Proof.Machine
end

section
/-! PROOFS. Every step keeps the counts of the Cue Sequencer and of the Field Clock (04 R85; 06 R122, R125). -/

namespace Sys2Proof.Machine

/-! ## The laws of the sequencer -/

/-- What the counting invariant says of the sequencer: the table of its states, its cues in range, and an expiry and a resumption due
in DELAYING and STALLED alone (04 R80, R85; log 9). -/
structure SequencerLaws (q : Sequencer) : Prop where
  table : SequencerTable q
  cues : ∀ i, (q.cues.get i).inRange = true
  expiry : q.expiryDue = true → q.state = .delaying
  resumption : q.resumeDue = true → q.state = .stalled

namespace SequencerLaws
variable {q : Sequencer}

theorem noExpiry (h : SequencerLaws q) (hs : q.state ≠ .delaying) : ¬ q.expiryDue = true := fun he => hs (h.expiry he)

theorem noResumption (h : SequencerLaws q) (hs : q.state ≠ .stalled) : ¬ q.resumeDue = true := fun hr => hs (h.resumption hr)

/-- The counts of RUNNING and STALLED are the same (04 R85). -/
theorem run_counts (h : SequencerLaws q) (hs : q.state = .running ∨ q.state = .stalled) : q.runCount ≤ 15 ∧ q.delay = 0 := by
  have ht := h.table
  rcases hs with hs | hs <;> simpa only [SequencerTable, hs] using ht

/-- The counts of HALTED are those of WAITING (04 R85). -/
theorem halted_counts (h : SequencerLaws q) (hs : q.state = .halted) : q.runCount = 0 ∧ q.delay = 0 := by
  simpa only [SequencerTable, hs] using h.table

/-- The laws speak of no setting and of no event that waits. -/
theorem withSettings (h : SequencerLaws q) (pointer loopStart : CueIndex) (mode : SeqMode) (sources : TriggerSources)
    (intervals marks halts : Nat) :
    SequencerLaws { q with pointer := pointer, loopStart := loopStart, mode := mode, sources := sources, intervalsDue := intervals
                           marksDue := marks, haltsDue := halts } :=
  ⟨h.table, h.cues, h.expiry, h.resumption⟩

theorem withDue (h : SequencerLaws q) (intervals marks halts : Nat) :
    SequencerLaws { q with intervalsDue := intervals, marksDue := marks, haltsDue := halts } :=
  h.withSettings _ _ _ _ _ _ _

/-- HALT (04 R87). -/
theorem halted (h : SequencerLaws q) : SequencerLaws q.halted :=
  ⟨q.halted_table, h.cues, fun he => (nomatch he), fun hr => (nomatch hr)⟩

/-- A run started by a trigger or an expiry (04 R89, R98). -/
theorem running (h : SequencerLaws q) (hs : q.state ≠ .stalled) : SequencerLaws q.running where
  table := q.running_table
  cues := h.cues
  expiry he := nomatch he
  resumption hr := absurd hr (h.noResumption hs)

/-- START (04 R86). -/
theorem started (h : SequencerLaws q) (hs : q.state = .halted) : SequencerLaws { q with state := .waiting } where
  table := h.halted_counts hs
  cues := h.cues
  expiry he := absurd he (h.noExpiry (by simp [hs]))
  resumption hr := absurd hr (h.noResumption (by simp [hs]))

/-- A stall of a run (04 R99). -/
theorem stalled (h : SequencerLaws q) (hs : q.state = .running) :
    SequencerLaws { q with state := .stalled, resumeDue := false } where
  table := h.run_counts (.inl hs)
  cues := h.cues
  expiry he := absurd he (h.noExpiry (by simp [hs]))
  resumption hr := nomatch hr

/-- A stalled run resumed (04 R100). -/
theorem resumed (h : SequencerLaws q) (hs : q.state = .stalled) :
    SequencerLaws { q with state := .running, resumeDue := false } where
  table := h.run_counts (.inr hs)
  cues := h.cues
  expiry he := absurd he (h.noExpiry (by simp [hs]))
  resumption hr := nomatch hr

/-- The ending decision after a cue in range (04 R95). -/
theorem ending (h : SequencerLaws q) (hs : q.state = .running) {e : CueEntry} (he : e.inRange = true) (pass : Bool) (n : Nat) :
    SequencerLaws (q.ending e n (endingDecision e pass q.mode n)) := by
  have hdelay : e.action = .delay → e.parameter ≠ 0 := fun ha => by simpa [CueEntry.inRange, ha] using he
  have hexpiry := h.noExpiry (by simp [hs])
  have hresume := h.noResumption (by simp [hs])
  have htable := Sequencer.ending_table (e := e) (pass := pass) (n := n) hs (h.run_counts (.inl hs)).2 hdelay
  generalize endingDecision e pass q.mode n = z at htable ⊢
  cases z with
  | halt | runaway => exact h.halted
  | delay => exact ⟨htable, h.cues, fun he => (nomatch he), fun hr => absurd hr hresume⟩
  | wait => exact ⟨htable, h.cues, fun he => absurd he hexpiry, fun hr => absurd hr hresume⟩
  | goOn => exact ⟨htable, h.cues, h.expiry, h.resumption⟩

/-- The sequencer's own count of a boundary (04 R98, R100). -/
theorem boundary (h : SequencerLaws q) : SequencerLaws q.boundary := by
  have htable := Sequencer.boundary_table h.table
  revert htable
  unfold Sequencer.boundary
  split <;> rename_i hs
  · split
    · exact fun htable => ⟨htable, h.cues, h.expiry, h.resumption⟩
    · exact fun htable => ⟨htable, h.cues, fun _ => hs, h.resumption⟩
  · exact fun htable => ⟨htable, h.cues, h.expiry, fun _ => hs⟩
  all_goals exact fun _ => h

end SequencerLaws

/-! ## The laws of both blocks -/

/-- The two blocks that count. -/
structure Counts where
  seq : Sequencer
  clock : FieldClock

def State.counts (s : State) : Counts := { seq := s.seq, clock := s.clock }

/-- Both blocks under their laws. -/
structure Counts.Lawful (κ : Counts) : Prop where
  seq : SequencerLaws κ.seq
  clock : ClockRanges κ.clock

theorem countingInvariant_iff (s : State) : CountingInvariant s ↔ s.counts.Lawful :=
  ⟨fun ⟨ht, hc, he, hr, hk⟩ => ⟨⟨ht, hc, he, hr⟩, hk⟩, fun ⟨⟨ht, hc, he, hr⟩, hk⟩ => ⟨ht, hc, he, hr, hk⟩⟩

/-! ## Operations that leave both blocks -/

@[simp] theorem withPort_counts (s : State) (v : Port) : (s.withPort v).counts = s.counts := rfl
@[simp] theorem withTable_counts (s : State) (v : PlateTable) : (s.withTable v).counts = s.counts := rfl
@[simp] theorem withKeyer_counts (s : State) (v : Keyer) : (s.withKeyer v).counts = s.counts := rfl
@[simp] theorem withScenes_counts (s : State) (v : Scenes) : (s.withScenes v).counts = s.counts := rfl
@[simp] theorem withRlc_counts (s : State) (v : RefLock) : (s.withRlc v).counts = s.counts := rfl
@[simp] theorem withRaster_counts (s : State) (v : Raster) : (s.withRaster v).counts = s.counts := rfl
@[simp] theorem withAtt_counts (s : State) (v : Attention) : (s.withAtt v).counts = s.counts := rfl
@[simp] theorem withPending_counts (s : State) (v : List Instr) : (s.withPending v).counts = s.counts := rfl
@[simp] theorem raise_counts (s : State) (d : Detail) : (raise s d).counts = s.counts := rfl
@[simp] theorem raiseAll_counts (s : State) (ds : List Detail) : (raiseAll s ds).counts = s.counts := rfl
@[simp] theorem reply_counts (s : State) (c : Byte) (b : List Byte) : (reply s c b).counts = s.counts := rfl
@[simp] theorem replyOkTo_counts (s : State) : (replyOkTo s).counts = s.counts := rfl
@[simp] theorem consume_counts (s : State) (n : Nat) : (consume s n).counts = s.counts := rfl
@[simp] theorem post_counts (s : State) (o : Origin) (op : AmendOp) : (post s o op).counts = s.counts := rfl
@[simp] theorem abortPort_counts (s : State) : (abortPort s).counts = s.counts := rfl
@[simp] theorem settleSegments_counts (s : State) : (settleSegments s).counts = s.counts := rfl
@[simp] theorem takeLineStart_counts (s : State) : (takeLineStart s).counts = s.counts := rfl
@[simp] theorem addFaults_counts (s : State) (k : SyncFaults) : (addFaults s k).counts = s.counts := by rw [addFaults_frame]; rfl
@[simp] theorem changeLock_counts (s : State) (l : LockState) : (changeLock s l).counts = s.counts := by rw [changeLock_frame]; rfl
@[simp] theorem enterSearch_counts (s : State) : (enterSearch s).counts = s.counts := by rw [enterSearch_frame]; rfl
@[simp] theorem enterFlywheel_counts (s : State) : (enterFlywheel s).counts = s.counts := by
  unfold enterFlywheel; rw [changeLock_counts]; rfl
@[simp] theorem settleShare_counts (s : State) : (settleShare s).counts = s.counts := by rw [settleShare_frame]; rfl
@[simp] theorem dropToLineLock_counts (s : State) (p : Option Nat) : (dropToLineLock s p).counts = s.counts := by
  unfold dropToLineLock; rw [changeLock_counts]; rfl

@[simp] theorem measurePhase_counts (s : State) (z : OutPos) (t : Time) : (measurePhase s z t).counts = s.counts := by
  unfold measurePhase
  split
  · split <;> rfl
  · rfl

@[simp] theorem applySetting_counts (s : State) : (applySetting s).counts = s.counts := by
  unfold applySetting
  split <;> simp

@[simp] theorem moveForSwitch_counts (s : State) : (moveForSwitch s).counts = s.counts := by
  unfold moveForSwitch
  split <;> simp

@[simp] theorem loseLines_counts (s : State) : (loseLines s).counts = s.counts := by
  unfold loseLines
  split <;> simp

@[simp] theorem closeWindow_counts (s : State) : (closeWindow s).counts = s.counts := by
  unfold closeWindow
  dsimp only
  split <;> simp

@[simp] theorem searchSync_counts (t : Time) (s : State) : (searchSync t s).counts = s.counts := by
  unfold searchSync
  split
  · rfl
  · dsimp only
    split
    · split <;> simp
    · rfl

@[simp] theorem flywheelSync_counts (t : Time) (s : State) : (flywheelSync t s).counts = s.counts := by
  unfold flywheelSync
  split
  · rfl
  · split <;> rfl

@[simp] theorem windowedSync_counts (t : Time) (s : State) : (windowedSync t s).counts = s.counts := by
  unfold windowedSync
  dsimp only
  split
  · split <;> simp
  · rfl

@[simp] theorem lineSync_counts (input : Input) (t : Time) (s : State) : (lineSync input t s).counts = s.counts := by
  unfold lineSync
  split
  · split <;> simp
  · rfl

@[simp] theorem passFlywheelLine_counts (s : State) : (passFlywheelLine s).counts = s.counts := by
  unfold passFlywheelLine
  split <;> rfl

@[simp] theorem frameSync_counts (pat : Pattern) (t : Time) (s : State) : (frameSync pat t s).counts = s.counts := by
  unfold frameSync checkField
  dsimp only
  split
  · split <;> simp
  · rfl

@[simp] theorem writeRequestByte_counts (b : Byte) (s : State) : (writeRequestByte b s).counts = s.counts := by
  unfold writeRequestByte
  split
  · rfl
  · split <;> rfl

@[simp] theorem readReplyByte_counts (s : State) : (readReplyByte s).counts = s.counts := by
  unfold readReplyByte
  split <;> rfl

@[simp] theorem clearCauses_counts (l : BitVec 2) (b : Byte) (s : State) : (clearCauses l b s).counts = s.counts := by
  unfold clearCauses
  split
  · rfl
  · split <;> rfl

@[simp] theorem refuseUnknown_counts (s : State) : (refuseUnknown s).counts = s.counts := by
  unfold refuseUnknown
  split
  · rfl
  · split <;> rfl

@[simp] theorem refuseUnframeable_counts (s : State) : (refuseUnframeable s).counts = s.counts := by
  unfold refuseUnframeable
  split <;> rfl

@[simp] theorem writeReport_counts (s : State) : (writeReport s).counts = s.counts := by
  unfold writeReport
  split
  · split <;> rfl
  all_goals rfl

@[simp] theorem stepList_counts (s : State) : (stepList s).counts = s.counts := by
  unfold stepList examineSlot
  split
  · split
    · split
      · rfl
      · split
        · rfl
        · split <;> rfl
    · rfl
  all_goals rfl

@[simp] theorem resumeList_counts (s : State) : (resumeList s).counts = s.counts := by
  unfold resumeList
  split
  · split <;> rfl
  all_goals rfl

@[simp] theorem endList_counts (s : State) : (endList s).counts = s.counts := by
  unfold endList
  split
  · split <;> rfl
  all_goals rfl

@[simp] theorem answerQuery_counts (t : Byte) (s : State) : (answerQuery t s).counts = s.counts := by
  unfold answerQuery
  dsimp only
  split <;> rfl

@[simp] theorem answerProbe_counts (r c : Nat) (s : State) : (answerProbe r c s).counts = s.counts := by
  unfold answerProbe
  dsimp only
  split <;> rfl

@[simp] theorem postRequest_counts (op : AmendOp) (s : State) : (postRequest op s).counts = s.counts := by
  unfold postRequest
  split <;> rfl

@[simp] theorem executeEntry_counts (e : CueEntry) (s : State) : (executeEntry e s).counts = s.counts := by
  unfold executeEntry
  split
  · rfl
  · split <;> rfl

/-- An operand check leaves what its request leaves. -/
@[simp] theorem withOperands_counts {ok : Bool} {k : State → State} {s : State} (h : (k s).counts = s.counts) :
    (withOperands ok k s).counts = s.counts := by
  cases ok
  · rfl
  · exact h

/-! ## Operations that keep the laws -/

section
variable {s : State}

theorem lawful_of_counts {t : State} (h : s.counts.Lawful) (e : t.counts = s.counts) : t.counts.Lawful := e ▸ h

theorem withRequest_lawful (r : ReqInfo) {k : List Byte → State → State}
    (hk : ∀ ops t, t.counts.Lawful → (k ops t).counts.Lawful) (h : s.counts.Lawful) : (withRequest r k s).counts.Lawful := by
  unfold withRequest
  split
  · exact h
  · split
    · split
      · exact hk _ _ h
      · exact h
    · exact h

/-- A request that leaves both blocks keeps their laws. -/
theorem withRequest_leaves (r : ReqInfo) {k : List Byte → State → State} (hk : ∀ ops t, (k ops t).counts = t.counts)
    (h : s.counts.Lawful) : (withRequest r k s).counts.Lawful :=
  withRequest_lawful r (fun ops t ht => lawful_of_counts ht (hk ops t)) h

theorem withOperands_lawful {ok : Bool} {k : State → State} (h : s.counts.Lawful) (hk : ok = true → (k s).counts.Lawful) :
    (withOperands ok k s).counts.Lawful := by
  cases ok
  · exact h
  · exact hk rfl

theorem whenHalted_lawful {k : State → State} (h : s.counts.Lawful) (hk : s.seq.state = .halted → (k s).counts.Lawful) :
    (whenHalted k s).counts.Lawful := by
  unfold whenHalted
  split
  · exact hk ‹_›
  · exact h

/-! ### The Field Clock (chapter 06) -/

theorem hand_lawful (h : s.counts.Lawful) (es : List CountEvent) : (hand s es).counts.Lawful := ⟨h.seq, h.clock.hand es⟩

/-- The event counter loaded from its preset (06 R125, R127). -/
theorem ClockRanges.loaded {c : FieldClock} (h : ClockRanges c) (preset : Nat) (select : EventSelect) (halt : Bool)
    (es : List CountEvent) :
    ClockRanges { c with preset := preset, count := preset, select := select, haltOnCount := halt, handed := es } := by
  obtain ⟨hoff, hon, -, -⟩ := h
  exact ⟨hoff, hon, id, fun hp => ⟨Nat.pos_of_ne_zero hp, Nat.le_refl _⟩⟩

theorem ClockRanges.drain {c : FieldClock} (h : ClockRanges c) : ClockRanges c.drain := by
  simpa [FieldClock.hand] using h.hand []

theorem counterDone_lawful (h : s.counts.Lawful) : (counterDone s).counts.Lawful :=
  ⟨h.seq.withDue _ _ _, (h.clock.loaded _ _ _ _).drain⟩

/-- The FIELD event of a boundary leaves a counter above 1 above 0 (06 R125). -/
theorem countField_lawful (h : s.counts.Lawful) : (countField s).counts.Lawful := by
  unfold countField
  split
  · rename_i hon
    split
    · exact counterDone_lawful h
    · obtain ⟨hoff, hlen, -, hcount⟩ := h.clock
      have hrange : 1 ≤ s.clock.count ∧ s.clock.count ≤ s.clock.preset := hcount hon.2
      have hnext : 1 ≤ s.clock.count - 1 ∧ s.clock.count - 1 ≤ s.clock.preset := by omega
      exact ⟨h.seq, hoff, hlen, fun hp => absurd hp hon.2, fun _ => hnext⟩
  · exact h

theorem clockBoundary_lawful (h : s.counts.Lawful) : (clockBoundary s).counts.Lawful :=
  countField_lawful ⟨h.seq.withDue _ _ _, h.clock.boundary⟩

theorem takeCountDone_lawful (h : s.counts.Lawful) : (takeCountDone s).counts.Lawful :=
  counterDone_lawful ⟨h.seq, h.clock⟩

theorem setFieldCount_lawful (ops : List Byte) (h : s.counts.Lawful) : (setFieldCount ops s).counts.Lawful := ⟨h.seq, h.clock⟩

theorem setMark_lawful (ops : List Byte) (h : s.counts.Lawful) : (setMark ops s).counts.Lawful := by
  refine withOperands_lawful h fun _ => ?_
  unfold writeMark
  split <;> exact ⟨h.seq, h.clock⟩

/-- The interval timer loaded (06 R123). -/
theorem setInterval_lawful (ops : List Byte) (h : s.counts.Lawful) : (setInterval ops s).counts.Lawful := by
  refine withOperands_lawful h fun _ => ⟨h.seq, ?_⟩
  obtain ⟨-, -, hoff, hon⟩ := h.clock
  exact ⟨fun _ => rfl, Nat.pos_of_ne_zero, hoff, hon⟩

theorem setCounter_lawful (ops : List Byte) (h : s.counts.Lawful) : (setCounter ops s).counts.Lawful :=
  withOperands_lawful h fun _ => ⟨h.seq, (h.clock.loaded _ _ _ _).drain⟩

/-! ### Triggers and halts (04 R87 to R91) -/

theorem trigger_lawful (h : s.counts.Lawful) : (trigger s).counts.Lawful := by
  unfold trigger
  split <;> rename_i hs
  · exact h
  · exact hand_lawful (s := s.withSeq s.seq.running) ⟨h.seq.running (by simp [State.counts, hs]), h.clock⟩ _
  all_goals exact h

theorem settleMark_lawful (h : s.counts.Lawful) : (settleMark s).counts.Lawful := by
  have hs : (s.withSeq { s.seq with marksDue := s.seq.marksDue - 1 }).counts.Lawful := ⟨h.seq.withDue _ _ _, h.clock⟩
  unfold settleMark takeMark
  dsimp only
  split
  · exact h
  · split
    · exact trigger_lawful hs
    · exact hs

theorem takeInterval_lawful (h : s.counts.Lawful) : (takeInterval s).counts.Lawful := by
  have hs : (s.withSeq { s.seq with intervalsDue := s.seq.intervalsDue - 1 }).counts.Lawful := ⟨h.seq.withDue _ _ _, h.clock⟩
  unfold takeInterval
  dsimp only
  split
  · exact trigger_lawful hs
  · exact hs

theorem cueInEdge_lawful (h : s.counts.Lawful) : (cueInEdge s).counts.Lawful := by
  unfold cueInEdge
  dsimp only
  split
  · exact trigger_lawful (hand_lawful h _)
  · exact hand_lawful h _

theorem halt_lawful (h : s.counts.Lawful) : (halt s).counts.Lawful := ⟨h.seq.halted, h.clock⟩

theorem takeHalt_lawful (h : s.counts.Lawful) : (takeHalt s).counts.Lawful := ⟨(h.seq.withDue _ _ _).halted, h.clock⟩

theorem portControl_lawful (ctl : Byte) (h : s.counts.Lawful) : (portControl ctl s).counts.Lawful := by
  unfold portControl
  split
  · exact ⟨h.seq.halted.withSettings _ _ _ _ _ _ _, h.clock.loaded _ _ _ _⟩
  · split <;> exact h

/-! ### Settings (04 R82, R84, R86) -/

theorem writeCues_lawful (ops : List Byte) (h : s.counts.Lawful) : (writeCues ops s).counts.Lawful := by
  refine withOperands_lawful h fun hok => whenHalted_lawful h fun _ => ⟨{ h.seq with cues := fun i => ?_ }, h.clock⟩
  simp only [writeCuesOk, Bool.and_eq_true, List.all_eq_true, List.mem_range] at hok
  rcases writeEntries_get (cueCount ops) (op8 ops 0) 1 s.seq.cues i hok.2 with hold | hnew
  · exact (congrArg CueEntry.inRange hold).trans (h.seq.cues i)
  · exact hnew

theorem setSequencer_lawful (ops : List Byte) (h : s.counts.Lawful) : (setSequencer ops s).counts.Lawful :=
  withOperands_lawful h fun _ => whenHalted_lawful h fun _ => ⟨h.seq.withSettings _ _ _ _ _ _ _, h.clock⟩

theorem start_lawful (ops : List Byte) (h : s.counts.Lawful) : (start ops s).counts.Lawful :=
  withOperands_lawful h fun _ => whenHalted_lawful h fun hs => ⟨(h.seq.started hs).withSettings _ _ _ _ _ _ _, h.clock⟩

/-! ### Cues (04 R93 to R100) -/

/-- A cue of the list finished in RUNNING (04 R93, R95). -/
theorem finishCue_lawful (h : s.counts.Lawful) (hs : s.seq.state = .running) {e : CueEntry} (he : e.inRange = true) :
    (finishCue s e).counts.Lawful :=
  ⟨(h.seq.withSettings (nextPointer e s.seq.pointer s.seq.loopStart) _ _ _ _ _ _).ending hs he _ _, h.clock.hand _⟩

theorem executeCue_lawful (h : s.counts.Lawful) (hs : s.seq.state = .running) : (executeCue s).counts.Lawful := by
  have he : s.seq.entry.inRange = true := h.seq.cues s.seq.pointer
  rcases ha : s.seq.entry.amendment? with _ | op
  · rw [executeCue_none ha]
    exact finishCue_lawful h hs he
  · rcases Nat.lt_or_ge s.table.queue.length 16 with hroom | hfull
    · rw [executeCue_posts ha hroom]
      exact finishCue_lawful (s := post s _ op) h hs he
    · rw [executeCue_stalls ha hfull]
      exact ⟨h.seq.stalled hs, h.clock⟩

theorem resumeRun_lawful (h : s.counts.Lawful) (hs : s.seq.state = .stalled) : (resumeRun s).counts.Lawful :=
  executeCue_lawful (s := s.withSeq { s.seq with state := .running, resumeDue := false }) ⟨h.seq.resumed hs, h.clock⟩ rfl

/-! ### Boundaries and hard aligns (08 R158, R166) -/

theorem takeBoundary_lawful (h : s.counts.Lawful) : (takeBoundary s).counts.Lawful := by
  have hclock := clockBoundary_lawful (lawful_of_counts h (settleShare_counts s))
  rw [takeBoundary_eq]
  exact ⟨hclock.seq.boundary.withDue _ _ _, hclock.clock.hand _⟩

theorem endField_lawful (h : s.counts.Lawful) : (endField s).counts.Lawful := by
  unfold endField
  dsimp only
  rw [withRaster_counts]
  exact takeBoundary_lawful h

theorem hardAlign_lawful (c : AlignCause) (t : Time) (h : s.counts.Lawful) : (hardAlign s c t).counts.Lawful := by
  unfold hardAlign
  dsimp only
  rw [raise_counts, withRaster_counts]
  exact takeBoundary_lawful (lawful_of_counts h rfl)

theorem entryDecision_lawful (t : Time) (h : s.counts.Lawful) : (entryDecision s t).counts.Lawful := by
  unfold entryDecision entrySteer
  split
  · split
    · dsimp only
      split
      · exact h
      · split
        · exact hardAlign_lawful _ t (lawful_of_counts h (withRlc_counts s _))
        · exact h
    · exact hardAlign_lawful _ t h
  · exact h

theorem enterFrameLock_lawful (pat : Pattern) (t : Time) (h : s.counts.Lawful) : (enterFrameLock s pat t).counts.Lawful :=
  entryDecision_lawful t (lawful_of_counts h (changeLock_counts _ _))

theorem judgePair_lawful (std : Standard) (pat : Pattern) (t : Time) (h : s.counts.Lawful) :
    (judgePair std pat t s).counts.Lawful := by
  unfold judgePair
  dsimp only
  split
  · exact enterFrameLock_lawful pat t (lawful_of_counts h (withRlc_counts s _))
  · exact lawful_of_counts h (by simp)

theorem pairSync_lawful (pat : Pattern) (t : Time) (h : s.counts.Lawful) : (pairSync pat t s).counts.Lawful := by
  unfold pairSync
  dsimp only
  split
  · exact h
  · exact judgePair_lawful _ pat t (lawful_of_counts h (withRlc_counts s _))

theorem confirm_lawful (std : Standard) (pat : Pattern) (t : Time) (h : s.counts.Lawful) :
    (confirm std pat t s).counts.Lawful := by
  unfold confirm
  dsimp only
  split
  · exact enterFrameLock_lawful pat t (lawful_of_counts h (withRlc_counts s _))
  · exact lawful_of_counts h (by simp)

theorem fieldSync_lawful (input : Input) (pat : Pattern) (t : Time) (h : s.counts.Lawful) :
    (fieldSync input pat t s).counts.Lawful := by
  unfold fieldSync
  split
  · split
    · exact h
    · exact pairSync_lawful pat t h
    · exact lawful_of_counts h (frameSync_counts pat t s)
    · unfold flywheelFieldSync
      split
      · exact confirm_lawful _ pat t h
      · exact h
  · exact h

theorem nextLineStart_lawful (h : s.counts.Lawful) : (nextLineStart s).counts.Lawful := by
  unfold nextLineStart moveToLineStart
  split
  · exact hardAlign_lawful _ _ h
  · rw [takeLineStart_counts]
    split
    · exact h
    · split
      · exact endField_lawful h
      · exact h

theorem setRaster_lawful (t : Time) (ops : List Byte) (h : s.counts.Lawful) : (setRaster t ops s).counts.Lawful := by
  refine withOperands_lawful h fun _ => ?_
  rw [replyOkTo_counts]
  unfold replaceParams
  dsimp only
  split
  · exact hardAlign_lawful _ t (lawful_of_counts h rfl)
  · exact h

theorem alignNow_lawful (t : Time) (h : s.counts.Lawful) : (alignNow t s).counts.Lawful := by
  unfold alignNow
  split
  · rw [replyOkTo_counts]
    exact hardAlign_lawful _ t h
  · exact h

/-! ## Every command -/

/-- Every command keeps the laws of both blocks. -/
theorem exec_lawful (i : Instr) (h : s.counts.Lawful) : ∃ t, exec i s = .next t ∧ t.counts.Lawful := by
  cases i with
  | powerOnReset => exact ⟨_, execPowerOnReset_eq s, (countingInvariant_iff State.reset).mp counts_powerOn⟩
  | abort ctl | softReset ctl => exact ⟨_, rfl, portControl_lawful ctl h⟩
  | setFieldCount => exact ⟨_, rfl, withRequest_lawful _ (fun ops _ => setFieldCount_lawful ops) h⟩
  | setMark => exact ⟨_, rfl, withRequest_lawful _ (fun ops _ => setMark_lawful ops) h⟩
  | setInterval => exact ⟨_, rfl, withRequest_lawful _ (fun ops _ => setInterval_lawful ops) h⟩
  | setCounter => exact ⟨_, rfl, withRequest_lawful _ (fun ops _ => setCounter_lawful ops) h⟩
  | setRaster t => exact ⟨_, rfl, withRequest_lawful _ (fun ops _ => setRaster_lawful t ops) h⟩
  | alignNow t => exact ⟨_, rfl, withRequest_lawful _ (fun _ _ => alignNow_lawful t) h⟩
  | writeCues => exact ⟨_, rfl, withRequest_lawful _ (fun ops _ => writeCues_lawful ops) h⟩
  | setSequencer => exact ⟨_, rfl, withRequest_lawful _ (fun ops _ => setSequencer_lawful ops) h⟩
  | start => exact ⟨_, rfl, withRequest_lawful _ (fun ops _ => start_lawful ops) h⟩
  | halt => exact ⟨_, rfl, withRequest_lawful _ (fun _ _ => halt_lawful) h⟩
  | step => exact ⟨_, rfl, withRequest_lawful _ (fun _ _ => trigger_lawful) h⟩
  | cueInEdge => exact ⟨_, rfl, cueInEdge_lawful h⟩
  | cueExecution => exact ⟨_, rfl, by split; exacts [executeCue_lawful h ‹_›, h]⟩
  | stallResumption => exact ⟨_, rfl, by split; exacts [resumeRun_lawful h (And.left ‹_›), h]⟩
  | delayExpiry =>
    refine ⟨_, rfl, ?_⟩
    split
    · rename_i hs
      exact ⟨h.seq.running (by simp [State.counts, hs.1]), h.clock⟩
    · exact h
  | intervalExpiry => exact ⟨_, rfl, by split; exacts [h, takeInterval_lawful h]⟩
  | countDone => exact ⟨_, rfl, by split; exacts [takeCountDone_lawful h, h]⟩
  | haltOnCount => exact ⟨_, rfl, by split; exacts [h, takeHalt_lawful h]⟩
  | fieldBoundary => exact ⟨_, rfl, by split; exacts [endField_lawful h, h]⟩
  | slewTimeout => exact ⟨_, rfl, by split; exacts [hardAlign_lawful _ _ h, h]⟩
  | lineStart => exact ⟨_, rfl, nextLineStart_lawful (lawful_of_counts (settleMark_lawful h) (settleSegments_counts _))⟩
  | fieldSync input pat t => exact ⟨_, rfl, fieldSync_lawful input pat t h⟩
  | selectSource => exact ⟨_, rfl, withRequest_leaves _ (fun ops t => withOperands_counts (by split <;> simp)) h⟩
  | recallScene => exact ⟨_, rfl, withRequest_leaves _ (fun ops t => withOperands_counts (by split <;> simp)) h⟩
  | setProfile | setInput | setStandard | place | amend | showPlate | close | drop | groupClose | groupMove | setPinned | query
  | probe | list | setLevels | setKeying | readCues | doCue | saveScene | clearScene =>
    exact ⟨_, rfl, withRequest_leaves _ (fun ops t => withOperands_counts (by simp)) h⟩
  | readTiming | readCounters | readScenes | sync | setEnables | readAttention =>
    exact ⟨_, rfl, withRequest_leaves _ (fun _ _ => rfl) h⟩
  | requestByteWrite | replyByteRead | attentionClear | unknownRequest | unframeableRequest | listSlotExamine | listResume
  | listEnd | fieldReport | lineSync | flywheelPredictedLine | holdoverExpiry => exact ⟨_, rfl, lawful_of_counts h (by simp)⟩
  | segmentEnd | holdDecaySegment | lineWindowClose => exact ⟨_, rfl, lawful_of_counts h (by split <;> simp)⟩

end

/-- Settles O59: the laws are those of the two blocks that count, and every command keeps them. -/
theorem stepsKeepTheCounts : Obligations.StepsKeepTheCounts := by
  intro s t h hstep
  have hs := (countingInvariant_iff s).mp h
  refine (countingInvariant_iff t).mpr ?_
  unfold step at hstep
  split at hstep
  · cases hstep
    exact hs
  · rename_i c rest _
    obtain ⟨u, hu, hlawful⟩ := exec_lawful c (lawful_of_counts hs (withPending_counts s rest))
    rw [hu] at hstep
    cases hstep
    exact hlawful

end Sys2Proof.Machine
end

section
/-! PROOFS. Requests and events that act on the Cue Sequencer: settings, START, HALT, triggers (04 R82 to R91; 06 R122, R125, R128). -/

namespace Sys2Proof.Machine

/-! ## Requests of a HALTED sequencer (04 R82, R84, R86) -/

theorem whenHalted_active {s : State} (h : s.seq.state ≠ .halted) (k : State → State) :
    whenHalted k s = reply s 0x85#8 [] := if_neg h

theorem whenHalted_halted {s : State} (h : s.seq.state = .halted) (k : State → State) : whenHalted k s = k s := if_pos h

/-- A ready request whose operands pass their check and that waits for HALTED: SEQUENCER ACTIVE in any other state, its effect in
HALTED. -/
theorem settings_ready (r : ReqInfo) {k : List Byte → State → State} {f : State → State} {ok : Bool} {s : State} {ops rest : List Byte}
    (hk : k ops = withOperands ok (whenHalted f)) (hok : ok = true) (h : RequestReady s r.code r.largest ops rest)
    (h30 : ops.length ≤ 30) (hl : ops.length ∈ r.lengths) :
    (s.seq.state ≠ .halted → withRequest r k s = answered s rest 0x85#8 []) ∧
      (s.seq.state = .halted → withRequest r k s = f (s.withPort { s.port with requests := rest })) := by
  rw [withRequest_ready r k h h30 hl, hk, hok, withOperands_true]
  generalize hu : s.withPort { s.port with requests := rest } = u
  have hseq : u.seq = s.seq := by rw [← hu]; rfl
  refine ⟨fun hs => ?_, fun hs => whenHalted_halted (hseq ▸ hs) f⟩
  rw [whenHalted_active (hseq ▸ hs), ← hu, reply_consumed]

/-! ## WRITE CUES (04 R82) -/

/-- Writing n entries from index i on leaves the entries before and behind them. -/
theorem writeEntries_other (ops : List Byte) (n i k : Nat) (v : Vector CueEntry 128) (hn : i + n ≤ 128) {c : CueIndex}
    (hc : c.val < i ∨ i + n ≤ c.val) : (writeEntries ops n i k v).get c = v.get c := by
  induction n generalizing i k v with
  | zero => rfl
  | succ n ih =>
    have hi : i % 128 = i := Nat.mod_eq_of_lt (by omega)
    rw [writeEntries, ih (i + 1) (k + 4) _ (by omega) (by omega), cues_get_set, if_neg (by omega)]

/-- The m-th of them is the entry at its place in the operand bytes. -/
theorem writeEntries_written (ops : List Byte) (n i k : Nat) (v : Vector CueEntry 128) (hn : i + n ≤ 128) {c : CueIndex} {m : Nat}
    (hm : m < n) (hc : c.val = i + m) : (writeEntries ops n i k v).get c = cueEntryAt ops (k + 4 * m) := by
  induction n generalizing i k v m with
  | zero => exact absurd hm (Nat.not_lt_zero m)
  | succ n ih =>
    have hi : i % 128 = i := Nat.mod_eq_of_lt (by omega)
    rw [writeEntries]
    cases m with
    | zero => rw [writeEntries_other ops n (i + 1) _ _ (by omega) (.inl (by omega)), cues_get_set, if_pos (by omega)]; rfl
    | succ m =>
      rw [ih (i + 1) (k + 4) _ (by omega) (m := m) (by omega) (by omega)]
      congr 1
      omega

/-- A WRITE CUES that passes its check stays within the list (04 R82, order 1). -/
theorem writeCuesOk_fits {ops : List Byte} (h : writeCuesOk ops = true) : op8 ops 0 + cueCount ops ≤ 128 := by
  simp only [writeCuesOk, Bool.and_eq_true, decide_eq_true_eq] at h
  exact h.1

/-- The operand bytes of a WRITE CUES hold cueCount entries behind the index. -/
theorem lt_cueCount {ops : List Byte} (hl : ops.length ∈ reqWriteCues.lengths) {k : Nat} (hk : 4 * k + 1 < ops.length) :
    k < cueCount ops := by
  simp only [reqWriteCues, List.mem_cons, List.not_mem_nil, or_false] at hl
  unfold cueCount
  omega

theorem writeCues_length {ops : List Byte} (hl : ops.length ∈ reqWriteCues.lengths) : ops.length ≤ 30 := by
  have hall : ∀ n ∈ reqWriteCues.lengths, n ≤ 30 := by decide
  exact hall _ hl

/-! ## SET SEQUENCER and START (04 R84, R86) -/

theorem cueIndex_ofNat {b : Byte} {i : CueIndex} (h : i.val = b.toNat) : Fin.ofNat 128 b.toNat = i :=
  Fin.ext ((congrArg (· % 128) h.symm).trans (Nat.mod_eq_of_lt i.isLt))

theorem seqModeOf_byte (m : Byte) : seqModeOf m.toNat = if m = 0x00#8 then .once else .loop := by
  by_cases h : m = 0x00#8
  · rw [h]; rfl
  · have hn : m.toNat ≠ 0 := fun hm => h (BitVec.eq_of_toNat_eq hm)
    rw [if_neg h, seqModeOf, if_neg hn]

theorem setSequencerOk_bytes {l m x : Byte} (hl : l.toNat ≤ 127) (hm : m.toNat ≤ 1) (hx : x.toNat < 8) :
    setSequencerOk [l, m, x] = true := by
  have h0 : op8 [l, m, x] 0 ≤ 127 := hl
  have h1 : op8 [l, m, x] 1 ≤ 1 := hm
  have h2 : op8 [l, m, x] 2 < 8 := hx
  simp [setSequencerOk, h0, h1, h2]

/-- Settles O30: each request in HALTED by what it writes, and SEQUENCER ACTIVE in any other state. -/
theorem haltedSequencerAcceptsSettings : Obligations.HaltedSequencerAcceptsSettings := by
  intro s ops rest
  refine ⟨fun hl hok h => ?writeCues, fun l m x hl hm hx h => ?setSequencer, fun h => ?start, fun p hp h => ?startAt⟩
  case writeCues =>
    have hfits := writeCuesOk_fits hok
    obtain ⟨hactive, hhalted⟩ := settings_ready reqWriteCues (k := writeCues) rfl hok h (writeCues_length hl) hl
    refine ⟨fun hs => congrArg Host.Outcome.next (hactive hs),
      fun hs => ⟨_, congrArg Host.Outcome.next (hhalted hs), fun i => ⟨fun k hlt hi => ?_, fun hi => ?_⟩⟩⟩
    · exact writeEntries_written ops _ _ _ _ hfits (lt_cueCount hl hlt) hi
    · exact writeEntries_other ops _ _ _ _ hfits hi
  case setSequencer =>
    obtain ⟨hactive, hhalted⟩ :=
      settings_ready reqSetSequencer (k := setSequencer) rfl (setSequencerOk_bytes hl hm hx) h (by simp) (by simp [reqSetSequencer])
    refine ⟨fun hs => congrArg Host.Outcome.next (hactive hs), fun hs i hi => congrArg Host.Outcome.next ?_⟩
    rw [hhalted hs, ← cueIndex_ofNat hi, ← seqModeOf_byte]
    rfl
  case start =>
    obtain ⟨hactive, hhalted⟩ := settings_ready reqStart (k := start) rfl rfl h (by simp) (by simp [reqStart])
    exact ⟨fun hs => congrArg Host.Outcome.next (hactive hs), fun hs => congrArg Host.Outcome.next (hhalted hs)⟩
  case startAt =>
    obtain ⟨hactive, hhalted⟩ := settings_ready reqStart (k := start) (ops := [p]) rfl (decide_eq_true hp) h (by simp) (by simp [reqStart])
    refine ⟨fun hs => congrArg Host.Outcome.next (hactive hs), fun hs i hi => congrArg Host.Outcome.next ?_⟩
    rw [hhalted hs, ← cueIndex_ofNat hi]
    rfl

/-! ## HALT (04 R87; 06 R125, R128) -/

/-- Settles O31: a HALT by its request, a halt of the counter by the halts that wait. -/
theorem haltsLeaveThePointer : Obligations.HaltsLeaveThePointer := by
  intro s
  refine ⟨fun rest h => congrArg Host.Outcome.next ?_, fun n hn => congrArg Host.Outcome.next ?_,
    fun h0 => congrArg Host.Outcome.next (if_pos h0)⟩
  · rw [withRequest_ready reqHalt (fun _ => halt) h (by simp) (by simp [reqHalt])]
    rfl
  · rw [if_neg (by omega), takeHalt, hn]
    rfl

/-! ## Triggers (04 R88 to R91; 06 R122, R124, R128) -/

/-- A trigger by the state that it finds (04 R89). -/
theorem trigger_halted {s : State} (h : s.seq.state = .halted) : trigger s = s := by
  unfold trigger; rw [h]

theorem trigger_waiting {s : State} (h : s.seq.state = .waiting) : trigger s = hand (s.withSeq s.seq.running) [.trigger] := by
  unfold trigger; rw [h]

theorem trigger_missed {s : State} (h : s.seq.state = .running ∨ s.seq.state = .stalled ∨ s.seq.state = .delaying) :
    trigger s = missTrigger s := by
  unfold trigger
  rcases h with h | h | h <;> rw [h]

/-- An event of a source is a trigger when the source is selected, and otherwise no more than taken (04 R88). -/
theorem trigger_if_source (b : Bool) (s : State) :
    (b = true → (if b then trigger s else s) = trigger s) ∧ (b = false → (if b then trigger s else s) = s) := by
  cases b <;> simp

/-- An INTERVAL event that waits is taken as a trigger when INTERVAL is a source (06 R122; log 9). -/
theorem execIntervalExpiry_succ {s : State} {n : Nat} (h : s.seq.intervalsDue = n + 1) :
    exec .intervalExpiry s = .next (if s.seq.sources.interval then trigger { s with seq := { s.seq with intervalsDue := n } }
      else { s with seq := { s.seq with intervalsDue := n } }) := by
  refine congrArg Host.Outcome.next ?_
  rw [if_neg (by omega), takeInterval, h]
  rfl

/-- A MARK A event that waits comes before the line start (log 8). -/
theorem execLineStart_mark {s : State} {n : Nat} (h : s.seq.marksDue = n + 1) :
    exec .lineStart s = .next (nextLineStart (settleSegments
      (if s.seq.sources.markA then trigger { s with seq := { s.seq with marksDue := n } }
        else { s with seq := { s.seq with marksDue := n } }))) := by
  show Host.Outcome.next (nextLineStart (settleSegments (settleMark s))) = _
  rw [settleMark_succ h]

/-- A reply of a request whose bytes have left the FIFO, after an effect that keeps the port. -/
theorem reply_of_requests {t : State} {rest : List Byte} (h : t.port.requests = rest) (code : Byte) (body : List Byte) :
    reply t code body = answered t rest code body := by
  subst h; rfl

/-- Settles O32: the trigger by the state it finds, then each source by whether it is selected. -/
theorem triggersActByState : Obligations.TriggersActByState := by
  refine ⟨fun s => ⟨trigger_halted, trigger_waiting, trigger_missed⟩, fun s rest h => ?step, fun s => ?cueIn,
    fun s n hn => ?interval, fun s n hn => ?markA, fun s h0 => congrArg Host.Outcome.next (if_pos h0)⟩
  case step =>
    refine congrArg Host.Outcome.next ?_
    rw [withRequest_ready reqStep (fun _ => stepTrigger) h (by simp) (by simp [reqStep])]
    exact reply_of_requests (congrArg Port.requests (trigger_port _)) _ _
  case cueIn =>
    obtain ⟨hon, hoff⟩ := trigger_if_source s.seq.sources.cueIn (hand s [.cueIn])
    exact ⟨fun h => congrArg Host.Outcome.next (hon h), fun h => congrArg Host.Outcome.next (hoff h)⟩
  case interval =>
    rw [execIntervalExpiry_succ hn]
    obtain ⟨hon, hoff⟩ := trigger_if_source s.seq.sources.interval { s with seq := { s.seq with intervalsDue := n } }
    exact ⟨fun h => congrArg Host.Outcome.next (hon h), fun h => congrArg Host.Outcome.next (hoff h)⟩
  case markA =>
    rw [execLineStart_mark hn]
    exact ⟨fun h => by rw [h]; rfl, fun h => by rw [h]; rfl⟩

end Sys2Proof.Machine
end

section
/-! PROOFS. The execution of cues: DO CUE, CUE EXECUTION, stalls and delays (04 R80, R93 to R102). -/

namespace Sys2Proof.Machine

/-! ## The amendment of a cue (04 R80) -/

/-- The displacements of a GROUP MOVE cue are the bytes of its parameter (09 R187, cue entry). -/
theorem CueEntry.moves_bytes {e : CueEntry} {r c : Byte} (h : e.parameter = c ++ r) :
    e.rowMove = r.toInt ∧ e.colMove = c.toInt := by
  unfold CueEntry.rowMove CueEntry.colMove
  rw [h]
  exact ⟨congrArg BitVec.toInt BitVec.extractLsb'_append_eq_right, congrArg BitVec.toInt BitVec.extractLsb'_append_eq_left⟩

theorem CueEntry.amendment_groupMove {e : CueEntry} {r c : Byte} (ha : e.action = .groupMove) (hp : e.parameter = c ++ r) :
    e.amendment? = some (.groupMove e.operand.toNat r.toInt c.toInt) := by
  obtain ⟨hrow, hcol⟩ := e.moves_bytes hp
  rw [CueEntry.amendment?, ha, hrow, hcol]

theorem CueEntry.amendment_recall {e : CueEntry} {n : SceneNo} (ha : e.action = .recall) (hn : e.operand.toNat = n.val) :
    e.amendment? = some (.recall n) := by
  have hscene : Fin.ofNat 4 e.operand.toNat = n := Fin.ext ((congrArg (· % 4) hn).trans (Nat.mod_eq_of_lt n.isLt))
  rw [CueEntry.amendment?, ha, hscene]

/-- The amendment that each action posts (04 R80). -/
theorem CueEntry.amendment_of_action (e : CueEntry) :
    (e.action = .nothing ∨ e.action = .delay → e.amendment? = none) ∧
    (e.action = .showPlate → e.amendment? = some (.showPlate e.operand)) ∧
    (e.action = .close → e.amendment? = some (.close e.operand)) ∧
    (e.action = .drop → e.amendment? = some (.drop e.operand)) ∧
    (e.action = .mix → e.amendment? = some (.mix e.operand e.parameter.toNat)) ∧
    (e.action = .groupClose → e.amendment? = some (.groupClose e.operand.toNat)) := by
  unfold CueEntry.amendment?
  refine ⟨fun ha => ?_, fun ha => ?_, fun ha => ?_, fun ha => ?_, fun ha => ?_, fun ha => ?_⟩
  · rcases ha with ha | ha <;> rw [ha]
  all_goals rw [ha]

/-! ## DO CUE (04 R102) -/

/-- CUE NOTIFY occurs exactly for an entry flagged NOTIFY (04 R103). -/
theorem occurAll_notifyDetails (a : Attention) (e : CueEntry) (index : Byte) :
    a.occurAll (notifyDetails e index) = if e.flags.notify then a.occur (.cueNotify index) else a := by
  unfold notifyDetails
  split <;> rfl

/-- A ready DO CUE whose entry passes its check executes that entry. -/
theorem execDoCue_ready {s : State} {ops rest : List Byte} (hl : ops.length = 4) (hok : cueOk ops 0 = true)
    (h : RequestReady s 0x46#8 3 ops rest) :
    exec .doCue s = .next (executeEntry (cueEntryAt ops 0) (s.withPort { s.port with requests := rest })) := by
  refine congrArg Host.Outcome.next ?_
  rw [withRequest_ready reqDoCue doCue h (by omega) (by simp [reqDoCue, hl]), doCue, hok, withOperands_true]

section
variable {e : CueEntry}

/-- An entry that posts nothing. -/
theorem executeEntry_none (s : State) (h : e.amendment? = none) :
    executeEntry e s = replyOkTo (s.withAtt (if e.flags.notify then s.att.occur (.cueNotify 0xFF#8) else s.att)) := by
  rw [← occurAll_notifyDetails]
  unfold executeEntry
  rw [h]
  rfl

variable {op : AmendOp}

/-- An entry that posts, with room in the queue. -/
theorem executeEntry_posts {s : State} (h : e.amendment? = some op) (hroom : s.table.queue.length < 16) :
    executeEntry e s = reply ((post s .request op).withAtt
      (if e.flags.notify then s.att.occur (.cueNotify 0xFF#8) else s.att)) replyQueued [byteOf (s.table.queue.length + 1)] := by
  rw [← occurAll_notifyDetails]
  unfold executeEntry
  rw [h]
  exact if_pos ((s.table.hasRoom_iff).mpr hroom)

/-- Without room it does nothing but answer (04 R102; 02 R36). -/
theorem executeEntry_full {s : State} (h : e.amendment? = some op) (hfull : 16 ≤ s.table.queue.length) :
    executeEntry e s = reply s 0x83#8 [] := by
  unfold executeEntry
  rw [h]
  exact if_neg fun hroom => absurd ((s.table.hasRoom_iff).mp hroom) (Nat.not_lt.mpr hfull)

end

/-- Settles O34: the request's entry executed in its three outcomes, and the amendment of each action. -/
theorem doCueExecutesOneEntry : Obligations.DoCueExecutesOneEntry := by
  refine ⟨fun s ops rest e a hl hok he ha h => ?_, fun e => ?_⟩
  · rw [execDoCue_ready hl hok h, ← he, ha]
    exact ⟨fun hnone => congrArg Host.Outcome.next (executeEntry_none _ hnone),
      fun op hop hroom => congrArg Host.Outcome.next (executeEntry_posts hop hroom),
      fun op hop hfull => congrArg Host.Outcome.next (executeEntry_full hop hfull)⟩
  · obtain ⟨hnone, hshow, hclose, hdrop, hmix, hgroup⟩ := e.amendment_of_action
    exact ⟨hnone, hshow, hclose, hdrop, hmix, hgroup, fun _ _ => e.amendment_groupMove, fun _ => e.amendment_recall⟩

/-! ## CUE EXECUTION (04 R93 to R96, R99) -/

theorem execCueExecution_running {s : State} (h : s.seq.state = .running) : exec .cueExecution s = .next (executeCue s) :=
  congrArg Host.Outcome.next (if_pos h)

/-- The pointer after a cue: the loop start after an END pass, and otherwise one on (04 R94). -/
theorem nextPointer_eq {e : CueEntry} {i loopStart next : CueIndex} (hpass : endPassAt e i = true → next = loopStart)
    (hon : endPassAt e i = false → next.val = i.val + 1) : nextPointer e i loopStart = next := by
  unfold nextPointer
  cases h : endPassAt e i with
  | true => exact (hpass h).symm
  | false =>
    have hval := hon h
    have hlt := next.isLt
    exact Fin.ext (show (i.val + 1) % 128 = next.val by omega)

/-- The entry finished with the ending z: pointer and state, END pass, CUE NOTIFY and the runaway fault (04 R93 items 4 to 6). -/
theorem finishCue_eq {s : State} {e : CueEntry} {pass : Bool} {next : CueIndex} {z : Ending} {a : Attention} {k : FieldClock}
    (hpass : endPassAt e s.seq.pointer = pass) (hnext : nextPointer e s.seq.pointer s.seq.loopStart = next)
    (hz : endingDecision e pass s.seq.mode (s.seq.runCount + 1) = z)
    (ha : a = if e.flags.notify then s.att.occur (.cueNotify (byteOf s.seq.pointer.val)) else s.att)
    (hk : k = if pass then s.clock.hand [.endPass] else s.clock.hand []) :
    finishCue s e = { s with
      att := a.occurAll (runawayDetails z s.seq.pointer), clock := k
      seq := { s.seq with pointer := next }.ending e (s.seq.runCount + 1) z } := by
  subst hpass hnext hz
  have hatt : ∀ z, s.att.occurAll (notifyDetails e (byteOf s.seq.pointer.val) ++ runawayDetails z s.seq.pointer) =
      a.occurAll (runawayDetails z s.seq.pointer) := fun z => by
    rw [ha, ← occurAll_notifyDetails]
    exact List.foldl_append
  have hclock : s.clock.hand (if endPassAt e s.seq.pointer then [.endPass] else []) = k := by
    rw [hk]
    split <;> rfl
  rw [← hatt, ← hclock]
  rfl

/-! ### The ending decision (04 R95) -/

section
variable {e : CueEntry} {pass : Bool} {mode : SeqMode} {n : Nat}

theorem endingDecision_halt (h : e.flags.halt = true ∨ (pass = true ∧ mode = .once)) : endingDecision e pass mode n = .halt := by
  unfold endingDecision
  split
  · rfl
  · rename_i hh
    exact if_pos (h.resolve_left hh)

/-- A run that neither the entry's HALT nor the end of the list halts. -/
theorem endingDecision_goesOn (hh : e.flags.halt = false) (hp : ¬ (pass = true ∧ mode = .once)) :
    endingDecision e pass mode n =
      if e.action = .delay then .delay else if e.flags.wait then .wait else if 16 ≤ n then .runaway else .goOn := by
  unfold endingDecision
  rw [hh, if_neg Bool.false_ne_true, if_neg hp]
  rfl

end

/-- The cue at the pointer executed when it does not stall: the queue after its amendment, and the cue finished (04 R93). -/
theorem executeCue_finishes {s : State} {q : PlateTable}
    (hq : (s.seq.entry.amendment? = none ∧ q = s.table) ∨
      ∃ op, s.seq.entry.amendment? = some op ∧ s.table.queue.length < 16 ∧
        q = { s.table with queue := s.table.queue ++ [{ origin := .cue s.seq.pointer, op := op }] }) :
    executeCue s = finishCue (s.withTable q) s.seq.entry := by
  rcases hq with ⟨hnone, rfl⟩ | ⟨op, hop, hroom, rfl⟩
  · exact executeCue_none hnone
  · exact executeCue_posts hop hroom

/-- Settles O35: a stall, or the cue finished by its ending. -/
theorem cueExecutionFollowsTheRun : Obligations.CueExecutionFollowsTheRun := by
  intro s e pass next hrun he hpass hend hon
  obtain rfl : e = s.seq.entry := he
  rw [execCueExecution_running hrun]
  refine ⟨fun op hop hfull => congrArg Host.Outcome.next (executeCue_stalls hop hfull), fun q a k hq ha hk => ?_⟩
  have hp : endPassAt s.seq.entry s.seq.pointer = pass := hpass.symm
  have hnext : nextPointer s.seq.entry s.seq.pointer s.seq.loopStart = next :=
    nextPointer_eq (fun h => hend (hp.symm.trans h)) (fun h => hon (hp.symm.trans h))
  have hfinish : ∀ z, endingDecision s.seq.entry pass s.seq.mode (s.seq.runCount + 1) = z → executeCue s = { s with
      table := q, att := a.occurAll (runawayDetails z s.seq.pointer), clock := k
      seq := { s.seq with pointer := next }.ending s.seq.entry (s.seq.runCount + 1) z } := fun z hz =>
    (executeCue_finishes hq).trans (finishCue_eq (s := s.withTable q) hp hnext hz ha hk)
  refine ⟨fun h => ?halts, fun hhalt honce => ?_⟩
  case halts => exact congrArg Host.Outcome.next (hfinish .halt (endingDecision_halt h))
  rw [endingDecision_goesOn hhalt honce] at hfinish
  refine ⟨fun hd => ?delays, fun hd hw => ?waits, fun hd hw hn => ?runsAway, fun hd hw hn => ?goesOn⟩
  case delays => exact congrArg Host.Outcome.next (hfinish .delay (if_pos hd))
  case waits => exact congrArg Host.Outcome.next (hfinish .wait ((if_neg hd).trans (if_pos hw)))
  case runsAway =>
    exact congrArg Host.Outcome.next
      (hfinish .runaway ((if_neg hd).trans ((if_neg (Bool.eq_false_iff.mp hw)).trans (if_pos hn))))
  case goesOn =>
    exact congrArg Host.Outcome.next
      (hfinish .goOn ((if_neg hd).trans ((if_neg (Bool.eq_false_iff.mp hw)).trans (if_neg (Nat.not_le.mpr hn)))))

/-! ## Boundaries, stalls and delays (04 R98, R100) -/

/-- The sequencer's own count of a boundary, by its state (04 R98, R100). -/
theorem Sequencer.boundary_stalled {q : Sequencer} (h : q.state = .stalled) : q.boundary = { q with resumeDue := true } := by
  rw [Sequencer.boundary, h]

theorem Sequencer.boundary_counts {q : Sequencer} (h : q.state = .delaying) (hd : 1 < q.delay) :
    q.boundary = { q with delay := q.delay - 1 } := by
  rw [Sequencer.boundary, h]
  exact if_pos hd

theorem Sequencer.boundary_expires {q : Sequencer} (h : q.state = .delaying) (hd : q.delay ≤ 1) :
    q.boundary = { q with expiryDue := true } := by
  rw [Sequencer.boundary, h]
  exact if_neg (Nat.not_lt.mpr hd)

theorem Sequencer.boundary_other {q : Sequencer} (hs : q.state ≠ .stalled) (hd : q.state ≠ .delaying) : q.boundary = q := by
  unfold Sequencer.boundary
  split
  · exact absurd ‹_› hd
  · exact absurd ‹_› hs
  all_goals rfl

/-- Settles O36: the boundary by the state, the resumption as an execution of the stalled cue, the expiry as a run's start. -/
theorem stallsAndDelaysGoOnAfterABoundary : Obligations.StallsAndDelaysGoOnAfterABoundary := by
  refine ⟨fun q => ⟨Sequencer.boundary_stalled, Sequencer.boundary_counts, Sequencer.boundary_expires, Sequencer.boundary_other⟩,
    fun s => ⟨fun hs hdue => ⟨resumeRun s, congrArg Host.Outcome.next (if_pos ⟨hs, hdue⟩), execCueExecution_running rfl⟩,
      fun h => congrArg Host.Outcome.next (if_neg h), fun hs hdue => congrArg Host.Outcome.next (if_pos ⟨hs, hdue⟩),
      fun h => congrArg Host.Outcome.next (if_neg h)⟩⟩

end Sys2Proof.Machine
end

section
/-! PROOFS. The Scene Store's requests: SAVE SCENE and CLEAR SCENE (05 R106, R107, R109). -/

namespace Sys2Proof.Machine

/-! ## The scene operand (05 R107, R109) -/

section
variable {n : Byte} {c : SceneNo}

theorem sceneOf_operand (hn : n.toNat = c.val) : sceneOf [n] = c :=
  Fin.ext ((congrArg (· % 4) hn).trans (Nat.mod_eq_of_lt c.isLt))

theorem sceneOk_operand (hn : n.toNat = c.val) : sceneOk [n] = true :=
  decide_eq_true (show n.toNat ≤ 3 from hn ▸ Nat.le_of_lt_succ c.isLt)

/-- A ready SAVE SCENE puts the scene of the table in place of scene c and answers with scene, count and field number (05 R107). -/
theorem execSaveScene_ready {s : State} {rest : List Byte} (hn : n.toNat = c.val) (h : RequestReady s 0x50#8 8 [n] rest) :
    exec .saveScene s = .next { answered s rest 0x02#8
      (n :: byteOf (sceneNow s).images.length :: le32 s.clock.counter) with scenes := (s.store.setScene c (sceneNow s)).scenes } := by
  have hbyte : byteOf (op8 [n] 0) = n := (BitVec.ofNat_toNat 8 n).trans n.setWidth_eq
  obtain rfl := sceneOf_operand hn
  show Host.Outcome.next (withRequest reqSaveScene saveScene s) = _
  rw [withRequest_ready reqSaveScene saveScene h (by simp) (by simp [reqSaveScene]), saveScene, sceneOk_operand hn,
    hbyte]
  rfl

/-- A ready CLEAR SCENE puts the empty scene in place of scene c (05 R109). -/
theorem execClearScene_ready {s : State} {rest : List Byte} (hn : n.toNat = c.val) (h : RequestReady s 0x52#8 2 [n] rest) :
    exec .clearScene s = .next { answered s rest 0x00#8 [] with scenes := (s.store.setScene c Scene.empty).scenes } := by
  obtain rfl := sceneOf_operand hn
  show Host.Outcome.next (withRequest reqClearScene clearScene s) = _
  rw [withRequest_ready reqClearScene clearScene h (by simp) (by simp [reqClearScene]), clearScene, sceneOk_operand hn]
  rfl

end

theorem Store.setScene_get_same (σ : Store) (n : SceneNo) (c : Scene) : (σ.setScene n c).scenes.get n = c := by
  rw [σ.setScene_get, if_pos rfl]

theorem Store.setScene_get_other (σ : Store) {n m : SceneNo} (c : Scene) (h : m ≠ n) :
    (σ.setScene n c).scenes.get m = σ.scenes.get m := by
  rw [σ.setScene_get, if_neg h]

/-! ## The slots that a SAVE SCENE copies (05 R106, R107) -/

/-- An image is taken of every unpinned plate that is not CLOSING, and of no other. -/
theorem savedImage_eq (pinned : Nat) (i : Slot) (p : Plate) : savedImage pinned i p =
    if pinned ≤ i.val ∧ p.state ≠ .closing then some { toHostFields := p.toHostFields, shown := decide (p.state = .shown) }
    else none := by
  unfold savedImage
  by_cases hi : i.val < pinned
  · rw [if_pos hi, if_neg fun ⟨hle, _⟩ => absurd hle (Nat.not_le.mpr hi)]
  · rw [if_neg hi]
    cases hs : p.state <;> simp [Nat.le_of_not_lt hi]

theorem savedImage_isSome (pinned : Nat) (i : Slot) (p : Plate) :
    (savedImage pinned i p).isSome = true ↔ pinned ≤ i.val ∧ p.state ≠ .closing := by
  rw [savedImage_eq, Option.isSome_ite]

/-- The image keeps the host fields and whether the plate was SHOWN (05 R106). -/
theorem savedImage_imageOf {pinned : Nat} {i : Slot} {p : Plate} {m : Image} (h : savedImage pinned i p = some m) : ImageOf p m := by
  rw [savedImage_eq] at h
  obtain ⟨-, h⟩ := Option.ite_none_right_eq_some.mp h
  cases h
  exact ⟨rfl, decide_eq_true_iff⟩

/-- The slots whose plates a SAVE SCENE copies. -/
def savedSlots (ts : Slots) (pinned : Nat) : List Slot :=
  allSlots.filter fun i => ((slotAt ts i).bind (savedImage pinned i)).isSome

theorem mem_savedSlots (ts : Slots) (pinned : Nat) (i : Slot) :
    i ∈ savedSlots ts pinned ↔ pinned ≤ i.val ∧ ∃ p, slotAt ts i = some p ∧ p.state ≠ .closing := by
  rw [savedSlots, List.mem_filter, and_iff_right (mem_allSlots i)]
  cases hp : slotAt ts i with
  | none => simp
  | some p => simp [savedImage_isSome]

theorem savedSlots_pairwise (ts : Slots) (pinned : Nat) : (savedSlots ts pinned).Pairwise (fun i j => i < j) :=
  (List.pairwise_lt_finRange 32).filter _

/-- What filterMap keeps corresponds, in order, to the elements with an image. -/
theorem forall₂_filter_filterMap {α β : Type} (f : α → Option β) (l : List α) :
    List.Forall₂ (fun a b => f a = some b) (l.filter fun a => (f a).isSome) (l.filterMap f) := by
  induction l with
  | nil => exact .nil
  | cons a l ih =>
    cases h : f a with
    | none => simpa [h] using ih
    | some b => simpa [h] using ih

/-- Image by image, a saved scene is that of its slots. -/
theorem savedImages_forall₂ (ts : Slots) (pinned : Nat) :
    List.Forall₂ (fun i m => ∃ p, slotAt ts i = some p ∧ ImageOf p m) (savedSlots ts pinned) (savedImages ts pinned) := by
  rw [savedImages_eq]
  refine (forall₂_filter_filterMap _ allSlots).imp fun i m h => ?_
  obtain ⟨p, hp, hm⟩ := Option.bind_eq_some_iff.mp h
  exact ⟨p, hp, savedImage_imageOf hm⟩

/-- Settles O37: one scene replaced, by the images of the unpinned ARMED and SHOWN plates or by none. -/
theorem scenesAreSavedAndCleared : Obligations.ScenesAreSavedAndCleared := by
  intro s n c rest hn
  refine ⟨fun h => ?saves, fun h => ?clears⟩
  case saves =>
    refine ⟨(s.store.setScene c (sceneNow s)).scenes, savedSlots s.table.slots s.table.pinned, ?_,
      fun k hk => s.store.setScene_get_other _ hk, ?_⟩
    · rw [s.store.setScene_get_same]
      exact execSaveScene_ready hn h
    · rw [s.store.setScene_get_same]
      exact ⟨rfl, rfl, savedSlots_pairwise _ _, mem_savedSlots _ _, savedImages_forall₂ _ _⟩
  case clears =>
    exact ⟨(s.store.setScene c Scene.empty).scenes, execClearScene_ready hn h,
      fun k hk => s.store.setScene_get_other _ hk, s.store.setScene_get_same c _⟩

end Sys2Proof.Machine
end

section
/-! PROOFS. RECALL at a boundary: its checks in order and the installation (05 R112 to R116). -/

namespace Sys2Proof.Machine

/-- The image conflicts with a plate of a pinned slot: one tag, or a shared position on one layer (05 R113). -/
theorem imageConflicts_iff (ts : Slots) (pinned : Nat) (m : Image) :
    imageConflicts ts pinned m = true ↔ ∃ i p, i.val < pinned ∧ slotAt ts i = some p ∧
      (p.tag = m.tag ∨ p.toHostFields.meets m.toHostFields = true) := by
  simp only [imageConflicts, List.any_eq_true, Bool.and_eq_true, decide_eq_true_eq, Option.any_eq_true, Bool.or_eq_true, beq_iff_eq]
  constructor
  · rintro ⟨i, -, hi, p, hp, hc⟩
    exact ⟨i, p, hi, hp, hc⟩
  · rintro ⟨i, p, hi, hp, hc⟩
    exact ⟨i, mem_allSlots i, hi, p, hp, hc⟩

/-- The plate of an image: SHOWN at its mix target, or ARMED with mix 0 (05 R115). -/
theorem installImage_eq (m : Image) : installImage m =
    { toHostFields := m.toHostFields, fadePhase := 0, held := false, new := true
      state := if m.shown then .shown else .armed, mix := if m.shown then m.mixTarget else 0 } := by
  unfold installImage
  split <;> rfl

/-! ## What a slot holds after an installation (05 R114, R115) -/

section
variable {ts : Slots} {pinned : Nat} {images : List Image} {i : Slot}

theorem slotAt_installScene_pinned (h : i.val < pinned) : slotAt (installScene ts pinned images) i = slotAt ts i := by
  rw [slotAt_installScene, if_pos h]

theorem slotAt_installScene_unpinned (h : pinned ≤ i.val) :
    slotAt (installScene ts pinned images) i = (images[i.val - pinned]?).map installImage := by
  rw [slotAt_installScene, if_neg (Nat.not_lt.mpr h)]

end

/-! ## The checks in order (05 R112) -/

section
variable {sc : Scenes} {w : TableWork} {n : SceneNo}

theorem applyRecall_empty (hv : (sc.get n).valid = false) : applyRecall sc w n = .error .sceneEmpty := by
  rw [applyRecall, hv]
  rfl

/-- A valid scene goes on to the checks of its size and its images. -/
theorem applyRecall_valid (hv : (sc.get n).valid = true) : applyRecall sc w n =
    if 32 - w.pinned < (sc.get n).images.length then .error .sceneTooLarge
    else if (sc.get n).images.any (imageConflicts w.slots w.pinned) then .error .sceneConflict
    else .ok { w with slots := installScene w.slots w.pinned (sc.get n).images
                      notices := w.notices ++ installNotices (sc.get n).images } := by
  rw [applyRecall, hv]
  rfl

theorem applyRecall_tooLarge (hv : (sc.get n).valid = true) (hl : 32 - w.pinned < (sc.get n).images.length) :
    applyRecall sc w n = .error .sceneTooLarge := by
  rw [applyRecall_valid hv, if_pos hl]

/-- A scene that fits goes on to the check of its images. -/
theorem applyRecall_fits (hv : (sc.get n).valid = true) (hl : (sc.get n).images.length ≤ 32 - w.pinned) : applyRecall sc w n =
    if (sc.get n).images.any (imageConflicts w.slots w.pinned) then .error .sceneConflict
    else .ok { w with slots := installScene w.slots w.pinned (sc.get n).images
                      notices := w.notices ++ installNotices (sc.get n).images } := by
  rw [applyRecall_valid hv, if_neg (Nat.not_lt.mpr hl)]

end

/-- Settles O44: the checks in their order, then the installed table slot by slot. -/
theorem recallInstallsTheScene : Obligations.RecallInstallsTheScene := by
  rintro f sc w o n a conflict rfl hconflict
  have hany : (sc.get n).images.any (imageConflicts w.slots w.pinned) = true ↔ conflict := by
    simp only [List.any_eq_true, imageConflicts_iff, hconflict]
  refine ⟨fun hv => applyAmendment_error (applyRecall_empty hv), fun hv hl => applyAmendment_error (applyRecall_tooLarge hv hl),
    fun hv hl hc => applyAmendment_error ?conflicts,
    fun hv hl hc => ⟨installScene w.slots w.pinned (sc.get n).images, ?carried, ?slots⟩⟩
  case conflicts => exact (applyRecall_fits hv hl).trans (if_pos (hany.mpr hc))
  case carried =>
    have hok : applyOp f sc w (.recall n) = _ := (applyRecall_fits hv hl).trans (if_neg (mt hany.mp hc))
    exact applyAmendment_ok (a := { origin := o, op := .recall n }) hok
  case slots =>
    refine fun i => ⟨slotAt_installScene_pinned, fun m hi hm => ?_, fun hi hm => ?_⟩
    · rw [slotAt_installScene_unpinned hi, hm, Option.map_some, installImage_eq]
    · rw [slotAt_installScene_unpinned hi, hm, Option.map_none]

end Sys2Proof.Machine
end

section
/-! PROOFS. The Field Clock: the event counter (06 R124 to R126) and the requests that write its registers (06 R119 to R127). -/

namespace Sys2Proof.Machine

/-! ## Counting (06 R124 to R126; log 10) -/

section
variable {sel : EventSelect} {preset n : Nat} {e : CountEvent} (es : List CountEvent)

/-- An event that is not selected, and every event while the counter is off, is passed over (06 R124, R125). -/
theorem countEvents_passes (h : sel.has e = false ∨ preset = 0) :
    countEvents sel preset n (e :: es) = countEvents sel preset n es := by
  rw [countEvents, if_neg]
  rintro ⟨hsel, hpreset⟩
  rcases h with h | h
  · exact Bool.false_ne_true (h.symm.trans hsel)
  · exact hpreset h

/-- A selected event takes 1 from a counter above 1 (06 R125). -/
theorem countEvents_takesOne (hsel : sel.has e = true) (hpreset : preset ≠ 0) (hn : 1 < n) :
    countEvents sel preset n (e :: es) = countEvents sel preset (n - 1) es := by
  rw [countEvents, if_pos ⟨hsel, hpreset⟩, if_neg (Nat.not_le.mpr hn)]

/-- A selected event that takes the counter to 0 waits, with those behind it (log 10). -/
theorem countEvents_waits (hsel : sel.has e = true) (hpreset : preset ≠ 0) (hn : n ≤ 1) :
    countEvents sel preset n (e :: es) = (n, e :: es) := by
  rw [countEvents, if_pos ⟨hsel, hpreset⟩, if_pos hn]

end

/-- What a Field Clock holds after events were handed to it, by the counting of those that waited and of the new ones. -/
theorem FieldClock.hand_eq {c : FieldClock} {es l ws : List CountEvent} {n : Nat} (hl : c.handed ++ es = l)
    (h : countEvents c.select c.preset c.count l = (n, ws)) : c.hand es = { c with count := n, handed := ws } := by
  subst hl
  simp only [FieldClock.hand, FieldClock.drain, h]

section
variable {c : FieldClock} {e : CountEvent} {es : List CountEvent}

/-- Nothing handed to a clock with nothing waiting changes nothing. -/
theorem FieldClock.hand_nil (h : c.handed = []) : c.hand [] = c := by
  rw [FieldClock.hand_eq (l := []) (by rw [h]; rfl) rfl, ← h]

theorem FieldClock.hand_passes (h : c.handed = []) (he : c.select.has e = false ∨ c.preset = 0) : c.hand (e :: es) = c.hand es := by
  simp only [FieldClock.hand, FieldClock.drain, h, List.nil_append, countEvents_passes es he]

theorem FieldClock.hand_takesOne (h : c.handed = []) (hsel : c.select.has e = true) (hpreset : c.preset ≠ 0) (hn : 1 < c.count) :
    c.hand (e :: es) = { c with count := c.count - 1 }.hand es := by
  simp only [FieldClock.hand, FieldClock.drain, h, List.nil_append, countEvents_takesOne es hsel hpreset hn]

/-- The event that takes the counter to 0 and those behind it wait, whether handed before or now (log 10). -/
theorem FieldClock.hand_waits {ds : List CountEvent} (h : c.handed ++ ds = e :: es) (hsel : c.select.has e = true)
    (hpreset : c.preset ≠ 0) (hn : c.count ≤ 1) : c.hand ds = { c with handed := e :: es } :=
  FieldClock.hand_eq h (countEvents_waits es hsel hpreset hn)

/-- COUNT DONE is due exactly while the first event that waits takes the counter to 0 (06 R125; log 10). -/
theorem FieldClock.doneDue_iff : c.doneDue = true ↔
    ∃ e es, c.handed = e :: es ∧ c.select.has e = true ∧ c.preset ≠ 0 ∧ c.count ≤ 1 := by
  unfold FieldClock.doneDue
  split
  · rename_i hnone
    simp [hnone]
  · rename_i d ds hsome
    simp [hsome, and_assoc]

end

/-- COUNT DONE takes the first event that waits, and counts those behind it from the preset on (06 R125, R126). -/
theorem takeCountDone_cons {s : State} {e : CountEvent} {es : List CountEvent} (h : s.clock.handed = e :: es) :
    takeCountDone s = { s with
      clock := { s.clock with count := s.clock.preset, handed := [] }.hand es
      att := s.att.occur .countDone
      seq := { s.seq with haltsDue := s.seq.haltsDue + (if s.clock.haltOnCount then 1 else 0) } } := by
  rw [takeCountDone, h]
  rfl

/-- Settles O33: one event by what it does to the counter, COUNT DONE by whether it is due, and the FIELD event of a boundary. -/
theorem eventCounterCountsSelectedEvents : Obligations.EventCounterCountsSelectedEvents := by
  refine ⟨fun c => FieldClock.hand_nil, fun c e es h0 => ⟨FieldClock.hand_passes h0, FieldClock.hand_takesOne h0, ?first⟩,
    fun c e es ds h => ?behind, fun s e es h hsel hpreset hn => congrArg Host.Outcome.next ?due,
    fun s h => congrArg Host.Outcome.next (if_neg ?notDue), fun s => ⟨countField_off, countField_counts, countField_done⟩,
    fun sel => ⟨rfl, rfl, rfl, rfl⟩⟩
  case first => exact FieldClock.hand_waits (by rw [h0]; rfl)
  case behind => exact FieldClock.hand_waits (by rw [h]; rfl)
  case due => rw [if_pos (FieldClock.doneDue_iff.mpr ⟨e, es, h, hsel, hpreset, hn⟩), takeCountDone_cons h]
  case notDue =>
    rw [FieldClock.doneDue_iff]
    rintro ⟨e, es, hhanded, hsel, hpreset, hn⟩
    rcases h e es hhanded with hun | hoff | hmore
    · exact Bool.false_ne_true (hun.symm.trans hsel)
    · exact hpreset hoff
    · omega

/-! ## The operand bytes of the requests that write registers (09 R187) -/

/-- A byte behind a word is the low byte of the longer word. -/
theorem toNat_append_byte {w : Nat} (x : BitVec w) (b : Byte) : (x ++ b).toNat = b.toNat + 256 * x.toNat := by
  have hb := b.isLt
  rw [BitVec.toNat_append, Nat.shiftLeft_eq, Nat.mul_comm, ← Nat.two_pow_add_eq_or_of_lt hb]
  omega

theorem op16_eq_bytes (ops : List Byte) (i : Nat) : op16 ops i = (opByte ops (i + 1) ++ opByte ops i).toNat :=
  (toNat_append_byte _ _).symm

theorem op32_eq_bytes (ops : List Byte) (i : Nat) :
    op32 ops i = opByte ops (i + 3) ++ opByte ops (i + 2) ++ opByte ops (i + 1) ++ opByte ops i :=
  op32_of_bytes (by simp only [toNat_append_byte, op8])

/-- A flag byte compared as a number or as a byte. -/
theorem toNat_beq_one (b : Byte) : (b.toNat == 1) = (b == 1) :=
  Bool.eq_iff_iff.mpr (by simp [BitVec.toNat_eq])

/-! ## Requests that write the registers of the Field Clock (06 R119 to R127) -/

/-- A ready request whose operands pass their check takes its effect (09 R178). -/
theorem withRequest_accepted (r : ReqInfo) {k : List Byte → State → State} {f : State → State} {ok : Bool} {s : State}
    {ops rest : List Byte} (hk : k ops = withOperands ok f) (hok : ok = true) (h : RequestReady s r.code r.largest ops rest)
    (h30 : ops.length ≤ 30) (hl : ops.length ∈ r.lengths) :
    withRequest r k s = f (s.withPort { s.port with requests := rest }) := by
  rw [withRequest_ready r k h h30 hl, hk, hok, withOperands_true]

section
variable {s : State} {rest : List Byte}

theorem execSetFieldCount_ready {b0 b1 b2 b3 : Byte} (h : RequestReady s 0x10#8 2 [b0, b1, b2, b3] rest) :
    exec .setFieldCount s = .next { answered s rest 0x00#8 [] with
      clock := { s.clock with counter := b3 ++ b2 ++ b1 ++ b0 } } := by
  refine congrArg Host.Outcome.next ?_
  rw [withRequest_ready reqSetFieldCount setFieldCount h (by simp) (by simp [reqSetFieldCount]), setFieldCount, op32_eq_bytes]
  rfl

/-- A ready SET MARK writes mark A or B from its bytes, by its first operand (06 R121). -/
theorem execSetMark_ready {w b0 b1 b2 b3 e : Byte} (hw : w.toNat ≤ 1) (he : e.toNat ≤ 1)
    (h : RequestReady s 0x11#8 2 [w, b0, b1, b2, b3, e] rest) :
    exec .setMark s = .next (replyOkTo (writeMark { value := b3 ++ b2 ++ b1 ++ b0, enable := e == 1 } w.toNat
      (s.withPort { s.port with requests := rest }))) := by
  have hok : (decide (op8 [w, b0, b1, b2, b3, e] 0 ≤ 1) && decide (op8 [w, b0, b1, b2, b3, e] 5 ≤ 1)) = true :=
    Bool.and_eq_true_iff.mpr ⟨decide_eq_true hw, decide_eq_true he⟩
  refine congrArg Host.Outcome.next ?_
  rw [withRequest_accepted reqSetMark (k := setMark) rfl hok h (by simp) (by simp [reqSetMark]), op32_eq_bytes,
    ← toNat_beq_one]
  rfl

/-- Clearing a cause: that cause loses pending, MORE and latch, every other stays (10 R190). -/
theorem Attention.clear_spec (a : Attention) (c : Cause) :
    (a.clear c).get c = { a.get c with pending := false, more := false, latch := none } ∧
      ∀ d, d ≠ c → (a.clear c).get d = a.get d :=
  ⟨(Attention.get_clear a c c).trans (if_pos rfl), fun d hd => (Attention.get_clear a c d).trans (if_neg hd)⟩

theorem execSetInterval_ready {b0 b1 : Byte} (hn : (b1 ++ b0).toNat ≤ 4095) (h : RequestReady s 0x12#8 2 [b0, b1] rest) :
    exec .setInterval s = .next { answered s rest 0x00#8 [] with
      clock := { s.clock with intervalLength := (b1 ++ b0).toNat, intervalCount := 0 } } := by
  have hop : op16 [b0, b1] 0 = (b1 ++ b0).toNat := op16_eq_bytes _ _
  refine congrArg Host.Outcome.next ?_
  rw [withRequest_accepted reqSetInterval (k := setInterval) rfl (decide_eq_true (hop ▸ hn)) h (by simp)
    (by simp [reqSetInterval]), hop]
  rfl

theorem execSetCounter_ready {b0 b1 e b : Byte} (he : e.toNat < 32) (hb : b.toNat ≤ 1)
    (h : RequestReady s 0x13#8 2 [b0, b1, e, b] rest) :
    exec .setCounter s = .next { answered s rest 0x00#8 [] with
      clock := s.clock.setCounter (b1 ++ b0).toNat (selectOf e) (b == 1) } := by
  have hok : (decide (op8 [b0, b1, e, b] 2 < 32) && decide (op8 [b0, b1, e, b] 3 ≤ 1)) = true :=
    Bool.and_eq_true_iff.mpr ⟨decide_eq_true he, decide_eq_true hb⟩
  refine congrArg Host.Outcome.next ?_
  rw [withRequest_accepted reqSetCounter (k := setCounter) rfl hok h (by simp) (by simp [reqSetCounter]), op16_eq_bytes,
    ← toNat_beq_one]
  rfl

end

/-- With no event waiting the counter takes the preset, and none waits (06 R127). -/
theorem FieldClock.setCounter_idle {c : FieldClock} (h : c.handed = []) (preset : Nat) (select : EventSelect) (halt : Bool) :
    (c.setCounter preset select halt).count = preset ∧ (c.setCounter preset select halt).handed = [] := by
  simp [FieldClock.setCounter, FieldClock.drain, h, countEvents]

/-- Settles O15: each request by the register that its bytes write. -/
theorem clockRequestsWriteTheirRegisters : Obligations.ClockRequestsWriteTheirRegisters := by
  intro s rest
  refine ⟨fun b0 b1 b2 b3 => execSetFieldCount_ready, fun b0 b1 b2 b3 e h he => ?markA, fun b0 b1 b2 b3 e h he => ?markB,
    fun b0 b1 h hn => execSetInterval_ready hn h, fun b0 b1 e b h he hb => ?counter⟩
  case markA =>
    obtain ⟨hcleared, hother⟩ := Attention.clear_spec s.att .markA
    exact ⟨s.att.clear .markA, hcleared, hother, execSetMark_ready (by decide) he h⟩
  case markB =>
    obtain ⟨hcleared, hother⟩ := Attention.clear_spec s.att .markB
    exact ⟨s.att.clear .markB, hcleared, hother, execSetMark_ready (by decide) he h⟩
  case counter =>
    exact ⟨_, _, execSetCounter_ready he hb h, fun h0 => FieldClock.setCounter_idle h0 _ _ _⟩

end Sys2Proof.Machine
end

section
/-! PROOFS. The requests that read and change nothing: READ COUNTERS, READ CUES, READ SCENES and READ ATTENTION, with their bodies
byte by byte (04 R83; 05 R110; 06 R129; 09 R187; 10 R193). -/

namespace Sys2Proof.Machine

/-! ## Numbers and bit sets as bytes (09 R187) -/

theorem numAt_le16 {n : Nat} (h : n ≤ 65535) : numAt (le16 n) 0 2 = n := by
  obtain ⟨a, b, hab, hn⟩ := le16_spec (Nat.lt_succ_of_le h)
  rw [hab]
  exact hn

theorem numAt_le32 (f : FieldNo) : numAt (le32 f) 0 4 = f.toNat := by
  obtain ⟨a, b, c, d, hbytes, hf⟩ := le32_spec f
  rw [hbytes]
  exact hf

/-- The two bytes of a 16-bit number are the low and the high byte of its word. -/
theorem le16_eq_extract (n : Nat) : le16 n = [(BitVec.ofNat 16 n).extractLsb' 0 8, (BitVec.ofNat 16 n).extractLsb' 8 8] := by
  have hlow : BitVec.ofNat 8 n = (BitVec.ofNat 16 n).extractLsb' 0 8 := BitVec.eq_of_toNat_eq (by simp)
  have hhigh : BitVec.ofNat 8 (n / 256) = (BitVec.ofNat 16 n).extractLsb' 8 8 :=
    BitVec.eq_of_toNat_eq (by simp [Nat.shiftRight_eq_div_pow]; omega)
  rw [le16, hlow, hhigh]

/-- Flags weighted by their places, from place i on, add up to the number that has them as its bits. -/
theorem sum_bitVal (bits : List Bool) (i : Nat) :
    (bits.mapIdx fun k b => bitVal b (k + i)).sum = 2 ^ i * Nat.ofBits bits.get := by
  induction bits generalizing i with
  | nil => rfl
  | cons b bits ih =>
    have htail : (bits.mapIdx fun k b => bitVal b (k + 1 + i)).sum = 2 ^ (i + 1) * Nat.ofBits bits.get := by
      rw [← ih (i + 1)]
      simp only [Nat.add_assoc, Nat.add_comm 1]
    have hbits : Nat.ofBits (b :: bits).get = 2 * Nat.ofBits bits.get + b.toNat := Nat.ofBits_succ _
    rw [List.mapIdx_cons, List.sum_cons, htail, hbits, Nat.zero_add, bitVal_eq]
    ring

/-- The byte whose number has these bits holds them, and zeros above. -/
theorem holdsBits_ofBits {bits : List Bool} (h : bits.length ≤ 8) : HoldsBits (byteOf (Nat.ofBits bits.get)) bits := by
  intro k
  rw [byteOf, BitVec.getLsbD_ofNat]
  by_cases hk : k < bits.length
  · rw [Nat.testBit_ofBits_lt _ _ hk, decide_eq_true (Nat.lt_of_lt_of_le hk h), List.getD_eq_getElem _ _ hk]
    rfl
  · have hk := Nat.le_of_not_lt hk
    rw [Nat.testBit_ofBits_ge _ _ hk, List.getD_eq_default _ _ hk, Bool.and_false]

/-- The bytes of one element, taken out of those of a list whose elements have m bytes each. -/
theorem take_drop_flatMap {α β : Type} {f : α → List β} {m : Nat} (hf : ∀ a, (f a).length = m) {l : List α} {k : Nat}
    (hk : k < l.length) : ((l.flatMap f).drop (m * k)).take m = f l[k] := by
  induction l generalizing k with
  | nil => exact absurd hk (Nat.not_lt_zero k)
  | cons a l ih =>
    rw [List.flatMap_cons]
    cases k with
    | zero => rw [Nat.mul_zero, List.drop_zero, List.take_left' (hf a), List.getElem_cons_zero]
    | succ k =>
      rw [Nat.mul_succ, Nat.add_comm, ← List.drop_drop, List.drop_left' (hf a), ih (Nat.lt_of_succ_lt_succ hk),
        List.getElem_cons_succ]

/-! ## The codes of named values (09 R187) -/

theorem lockCode_mem (l : LockState) : (l, byteOf (lockCode l)) ∈ lockCodes := by cases l <;> decide
theorem alignCode_mem (c : AlignCause) : (c, byteOf (alignCode c)) ∈ alignCodes := by cases c <;> decide
theorem seqFaultCode_mem (r : SeqFaultReason) : (r, byteOf (seqFaultCode r)) ∈ seqFaultCodes := by cases r <;> decide
theorem amendKindCode_mem (k : AmendKind) : (k, byteOf (amendKindCode k)) ∈ amendKindCodes := by cases k <;> decide
theorem faultReasonCode_mem (r : FaultReason) : (r, byteOf (faultReasonCode r)) ∈ faultReasonCodes := by cases r <;> decide
theorem seqStateCode_mem (q : SeqState) : (q, byteOf (seqStateCode q)) ∈ seqStateCodes := by cases q <;> decide
theorem seqModeCode_mem (m : SeqMode) : (m, byteOf (seqModeCode m)) ∈ seqModeCodes := by cases m <;> decide

/-! ## READ CUES (04 R83) -/

theorem sourcesByte_holdsBits (x : TriggerSources) :
    HoldsBits (byteOf (bitVal x.cueIn 0 + bitVal x.interval 1 + bitVal x.markA 2)) [x.cueIn, x.interval, x.markA] := by
  have hbits : bitVal x.cueIn 0 + bitVal x.interval 1 + bitVal x.markA 2 = Nat.ofBits [x.cueIn, x.interval, x.markA].get := by
    simpa [Nat.add_assoc] using sum_bitVal [x.cueIn, x.interval, x.markA] 0
  rw [hbits]
  exact holdsBits_ofBits (by simp)

/-- The status block of 8 bytes is that of 09 R187. -/
theorem seqStatus_statusBlockOf (q : Sequencer) : StatusBlockOf q (seqStatus q) := by
  have hpointer := q.pointer.isLt
  have hloop := q.loopStart.isLt
  refine ⟨rfl, seqStateCode_mem _, numAt_one rfl (by omega), numAt_one rfl (by omega), seqModeCode_mem _, sourcesByte_holdsBits _,
    fun hrun => numAt_one rfl (by omega), fun hs => ?outside, fun hs hd => ?delaying⟩
  case outside =>
    rw [seqStatus, if_neg hs]
    rfl
  case delaying =>
    rw [seqStatus, if_pos hs]
    exact numAt_le16 hd

theorem cueEntryBytes_length (e : CueEntry) : (cueEntryBytes e).length = 4 := rfl

theorem entryBytes_length (v : Vector CueEntry 128) (i n : Nat) : (entryBytes v i n).length = 4 * n := by
  simp [entryBytes, cueEntryBytes_length, Nat.mul_comm]

/-- The bytes of entry k of a READ CUES are those of the cue at index i + k. -/
theorem entryBytes_entry (v : Vector CueEntry 128) {i n k : Nat} {j : CueIndex} (hk : k < n) (hj : j.val = i + k) :
    ((entryBytes v i n).drop (4 * k)).take 4 = cueEntryBytes (v.get j) := by
  have hindex : (⟨(i + k) % 128, Nat.mod_lt _ (by decide)⟩ : CueIndex) = j :=
    Fin.ext ((congrArg (· % 128) hj.symm).trans (Nat.mod_eq_of_lt j.isLt))
  rw [entryBytes, take_drop_flatMap (fun _ => cueEntryBytes_length _) (by simpa using hk), List.getElem_range, hindex]

/-! ## READ SCENES (05 R110) -/

theorem sceneBytes_sceneBytesOf (c : Scene) : SceneBytesOf c (sceneBytes c) := by
  refine ⟨rfl, ?_, fun himages => numAt_one rfl (by omega), numAt_le32 c.savedField⟩
  have hvalid := c.valid.toNat_le
  exact numAt_one (congrArg byteOf (by simp [bitVal_eq])) (by omega)

/-- The scenes of the store in their order. -/
theorem scenes_toList (c : Scenes) : c.toList = [c.get 0, c.get 1, c.get 2, c.get 3] := by
  refine List.ext_getElem (by simp) fun i h _ => ?_
  have hi : i < 4 := by simpa using h
  interval_cases i <;> rfl

/-- READ SCENES replies with the bytes of the four scenes (05 R110). -/
theorem readScenes_eq (s : State) : readScenes s = reply s replyData (sceneBytes (s.scenes.get 0) ++
    sceneBytes (s.scenes.get 1) ++ sceneBytes (s.scenes.get 2) ++ sceneBytes (s.scenes.get 3)) := by
  simp only [readScenes, scenes_toList, List.flatMap_cons, List.flatMap_nil, List.append_nil, List.append_assoc]

/-! ## READ ATTENTION (10 R193) -/

theorem Cause.number_lt (c : Cause) : c.number < allCauses.length := by cases c <;> decide

theorem Cause.getElem_number (c : Cause) : allCauses[c.number]'c.number_lt = c := by cases c <;> rfl

theorem number_getElem {i : Nat} (h : i < allCauses.length) : allCauses[i].number = i := by
  have hi : i < 16 := h
  interval_cases i <;> rfl

/-- A set of causes as the number whose bits are the flags in cause order. -/
theorem Attention.bits_eq (a : Attention) (f : CauseState → Bool) :
    a.bits f = Nat.ofBits (allCauses.map fun c => f (a.get c)).get := by
  have hplaces : (allCauses.map fun c => bitVal (f (a.get c)) c.number) =
      (allCauses.map fun c => f (a.get c)).mapIdx fun k b => bitVal b (k + 0) :=
    List.ext_getElem (by simp) fun i h _ => by
      rw [List.getElem_map, List.getElem_mapIdx, List.getElem_map, number_getElem, Nat.add_zero]
  rw [Attention.bits, hplaces, sum_bitVal, Nat.pow_zero, Nat.one_mul]

/-- Cause n of a set stands as bit n (09 R187). -/
theorem Attention.testBit_bits (a : Attention) (f : CauseState → Bool) (c : Cause) :
    (a.bits f).testBit c.number = f (a.get c) := by
  have hmap : c.number < (allCauses.map fun c => f (a.get c)).length := by rw [List.length_map]; exact c.number_lt
  rw [a.bits_eq, Nat.testBit_ofBits_lt _ _ hmap, List.get_eq_getElem, List.getElem_map, c.getElem_number]

theorem syncFaults_holdsBits (k : SyncFaults) :
    HoldsBits (byteOf k.code) [k.mismatch, k.longField, k.shortField, k.parity, k.holdover] := by
  have hbits : k.code = Nat.ofBits [k.mismatch, k.longField, k.shortField, k.parity, k.holdover].get := by
    simpa [SyncFaults.code, Nat.add_assoc] using sum_bitVal [k.mismatch, k.longField, k.shortField, k.parity, k.holdover] 0
  rw [hbits]
  exact holdsBits_ofBits (by simp)

/-- The latch bytes of an occurrence are those of 09 R187. -/
theorem Detail.bytes_latchOf (d : Detail) : LatchOf d.bytes d := by
  cases d with
  | lockChange old new => exact ⟨_, _, rfl, lockCode_mem old, lockCode_mem new⟩
  | syncFault k => exact ⟨_, rfl, syncFaults_holdsBits k⟩
  | rasterReset c => exact ⟨_, rfl, alignCode_mem c⟩
  | markA f => exact ⟨rfl, numAt_le32 f⟩
  | markB f => exact ⟨rfl, numAt_le32 f⟩
  | sequencerFault r i => exact ⟨_, _, rfl, seqFaultCode_mem r, byteOf_toNat (by omega)⟩
  | applyFault k o r g =>
    refine ⟨_, _, amendKindCode_mem k, faultReasonCode_mem r, ?_⟩
    cases g with
    | request => exact .inl ⟨rfl, rfl⟩
    | cue i => exact .inr ⟨i, _, rfl, byteOf_toNat (by omega), rfl⟩
  | spanOverflow r f => exact ⟨rfl, numAt_le16, numAt_le32 f⟩
  | countDone | cueNotify | plateShown | plateClosed | plateStopped | motionHeld | eviction | portOverrun => rfl

theorem Cause.latchSize_eq (c : Cause) : c.latchSize = latchSizes.getD c.number 0 := by cases c <;> rfl

theorem Detail.bytes_length (d : Detail) : d.bytes.length = d.cause.latchSize := by
  cases d with
  | applyFault k o r g => cases g <;> rfl
  | _ => rfl

/-- A cause's latch reads as the occurrence it holds, or as zeros (10 R193). -/
theorem Attention.latchReads (a : Attention) (c : Cause) : LatchReads c (a.get c) (a.latchBytes c) := by
  refine ⟨fun h => ?_, fun d h => ?_⟩ <;> rw [Attention.latchBytes, h]
  · exact congrArg (List.replicate · 0x00#8) c.latchSize_eq
  · exact d.bytes_latchOf

/-- Each latch has the bytes of its cause, whether it holds an occurrence or not (10 R188). -/
theorem latchBytes_length {s : State} (h : AttentionInvariant s) (c : Cause) : (s.att.latchBytes c).length = c.latchSize := by
  obtain ⟨hclear, hpending⟩ := h c
  rw [Attention.latchBytes]
  cases hp : (s.att.get c).pending with
  | false => rw [(hclear hp).2, List.length_replicate]
  | true =>
    obtain ⟨d, hd, rfl⟩ := hpending hp
    rw [hd, d.bytes_length]

/-- The body of a READ ATTENTION is that of 09 R187. -/
theorem Attention.body_attentionBodyOf (a : Attention) : AttentionBodyOf a a.body := by
  have hbit : ∀ (f : CauseState → Bool) (c : Cause), (BitVec.ofNat 16 (a.bits f)).getLsbD c.number = f (a.get c) := fun f c => by
    rw [BitVec.getLsbD_ofNat, a.testBit_bits, decide_eq_true (show c.number < 16 from c.number_lt), Bool.true_and]
  refine ⟨_, _, _, a.latchBytes, ?_, fun c => ⟨hbit _ c, hbit _ c, hbit _ c, a.latchReads c⟩⟩
  simp [Attention.body, le16_eq_extract, allCauses]

/-- The six bytes of the sets and the 33 of the latches (09 R187). -/
theorem body_length {s : State} (h : AttentionInvariant s) : s.att.body.length = 39 := by
  have hset : ∀ n, (le16 n).length = 2 := fun _ => rfl
  simp [Attention.body, hset, allCauses, latchBytes_length h, Cause.latchSize]

/-! ## The four requests -/

/-- Settles O14: each request is a reply, and its body is that of its layout. -/
theorem readRequestsOnlyReply : Obligations.ReadRequestsOnlyReply := by
  refine ⟨fun s rest => ⟨fun h => congrArg Host.Outcome.next ?counters, fun i n h h1 h7 h128 => ?cues, fun h => ?scenes,
    fun h => ?attention⟩, fun n => byteOf_toNat, fun n h => ⟨rfl, numAt_le16 h⟩, fun f => ⟨rfl, numAt_le32 f⟩⟩
  case counters =>
    rw [withRequest_ready reqReadCounters (fun _ => readCounters) h (by simp) (by simp [reqReadCounters])]
    rfl
  case cues =>
    have hok : readCuesOk [i, n] = true := by
      have hn1 : 1 ≤ op8 [i, n] 1 := h1
      have hn7 : op8 [i, n] 1 ≤ 7 := h7
      have hlast : op8 [i, n] 0 + op8 [i, n] 1 ≤ 128 := h128
      simp [readCuesOk, hn1, hn7, hlast]
    refine ⟨seqStatus s.seq, entryBytes s.seq.cues i.toNat n.toNat, congrArg Host.Outcome.next ?_, seqStatus_statusBlockOf _,
      entryBytes_length _ _ _, fun k j => entryBytes_entry _⟩
    rw [withRequest_accepted reqReadCues (k := readCues) rfl hok h (by simp) (by simp [reqReadCues])]
    rfl
  case scenes =>
    refine ⟨_, _, _, _, congrArg Host.Outcome.next ?_, sceneBytes_sceneBytesOf _, sceneBytes_sceneBytesOf _,
      sceneBytes_sceneBytesOf _, sceneBytes_sceneBytesOf _⟩
    rw [withRequest_ready reqReadScenes (fun _ => readScenes) h (by simp) (by simp [reqReadScenes]), readScenes_eq, reply_consumed]
    rfl
  case attention =>
    refine ⟨s.att.body, congrArg Host.Outcome.next ?_, s.att.body_attentionBodyOf, body_length⟩
    rw [withRequest_ready reqReadAttention (fun _ => readAttention) h (by simp) (by simp [reqReadAttention])]
    rfl

end Sys2Proof.Machine
end

section
/-! PROOFS. The requests of the Reference Lock Controller: settings, READ TIMING, SELECT SOURCE and SET STANDARD (07 R134 to R136, R149,
R154). -/

namespace Sys2Proof.Machine

/-! ## Operand bytes that name one of two (09 R187) -/

theorem profileOf_byte (b : Byte) : profileOf b.toNat = if b = 0x00#8 then .broadcast else .tape := by
  by_cases h : b = 0x00#8
  · rw [h]; rfl
  · have hn : b.toNat ≠ 0 := fun hb => h (BitVec.eq_of_toNat_eq hb)
    rw [if_neg h, profileOf, if_neg hn]

theorem inputOf_byte (b : Byte) : inputOf b.toNat = if b = 0x00#8 then .a else .b := by
  by_cases h : b = 0x00#8
  · rw [h]; rfl
  · have hn : b.toNat ≠ 0 := fun hb => h (BitVec.eq_of_toNat_eq hb)
    rw [if_neg h, inputOf, if_neg hn]

/-! ## SET PROFILE, SET INPUT and READ TIMING (07 R134, R135, R154) -/

section
variable {s : State} {rest : List Byte}

theorem profileOk_bytes {n w q m h z g : Byte} (hn : n.toNat ≤ 1) (hw1 : 1 ≤ w.toNat) (hw31 : w.toNat ≤ 31) (hq : 8 ≤ q.toNat)
    (hm1 : 1 ≤ m.toNat) (hm63 : m.toNat ≤ 63) (hz : z.toNat ≤ 15) (hg : g.toNat ≤ 7) : profileOk [n, w, q, m, h, z, g] = true := by
  simp [profileOk, op8, opByte, *]

theorem execSetProfile_ready {n w q m h z g : Byte} (hok : profileOk [n, w, q, m, h, z, g] = true)
    (hr : RequestReady s 0x02#8 2 [n, w, q, m, h, z, g] rest) :
    exec .setProfile s = .next { answered s rest 0x00#8 [] with
      rlc := s.rlc.setProfile (profileFields [n, w, q, m, h, z, g]) (if n = 0x00#8 then .broadcast else .tape) } := by
  refine congrArg Host.Outcome.next ?_
  rw [withRequest_accepted reqSetProfile (k := setProfile) rfl hok hr (by simp) (by simp [reqSetProfile]), ← profileOf_byte]
  rfl

theorem execSetInput_ready {i p : Byte} (hi : i.toNat ≤ 1) (hp : p.toNat ≤ 1) (h : RequestReady s 0x03#8 2 [i, p] rest) :
    exec .setInput s = .next { answered s rest 0x00#8 [] with
      rlc := s.rlc.assign (if p = 0x00#8 then .broadcast else .tape) (if i = 0x00#8 then .a else .b) } := by
  have hok : (decide (op8 [i, p] 0 ≤ 1) && decide (op8 [i, p] 1 ≤ 1)) = true :=
    Bool.and_eq_true_iff.mpr ⟨decide_eq_true hi, decide_eq_true hp⟩
  refine congrArg Host.Outcome.next ?_
  rw [withRequest_accepted reqSetInput (k := setInput) rfl hok h (by simp) (by simp [reqSetInput]), ← profileOf_byte, ← inputOf_byte]
  rfl

theorem execReadTiming_ready (h : RequestReady s 0x07#8 19 [] rest) :
    exec .readTiming s = .next { answered s rest 0x02#8 (timingBody s.rlc.image s.rlc.faults) with
      rlc := { s.rlc with faults := SyncFaults.none } } := by
  refine congrArg Host.Outcome.next ?_
  rw [withRequest_ready reqReadTiming (fun _ => readTiming) h (by simp) (by simp [reqReadTiming])]
  rfl

end

theorem slewCode_mem (w : SlewName) : (w, byteOf (slewCode w)) ∈ slewCodes := by cases w <;> decide
theorem inputCode_mem (x : Input) : (x, byteOf (inputCode x)) ∈ inputCodes := by cases x <;> decide

theorem standardCode_mem (x : Option Standard) : (x, byteOf (standardCode x)) ∈ standardCodes := by
  cases x with
  | none => decide
  | some std => cases std <;> decide

/-- A measured period in two bytes (09 R187). -/
theorem numAt_le16i {x : Int} (h0 : 0 ≤ x) (h1 : x ≤ 65535) : (numAt (le16i x) 0 2 : Int) = x := by
  have hword : (BitVec.ofInt 16 x).toNat = x.toNat := by rw [BitVec.toNat_ofInt, Int.emod_eq_of_lt h0 (by omega)]
  rw [le16i, hword, numAt_le16 (by omega), Int.toNat_of_nonneg h0]

theorem signed16At_le16i {x : Int} (h0 : -32768 ≤ x) (h1 : x ≤ 32767) : signed16At (le16i x) 0 = x := by
  obtain ⟨a, b, hab, hx⟩ := le16i_spec h0 h1
  rw [hab]
  exact hx

/-- The timing image and the sync-fault set stand in their 17 bytes as 09 R187 lays them out. -/
theorem timingBody_timingBodyOf (g : TimingImage) (k : SyncFaults) : TimingBodyOf g k (timingBody g k) :=
  ⟨rfl, lockCode_mem _, slewCode_mem _, inputCode_mem _, standardCode_mem _, numAt_le16i, numAt_le16, signed16At_le16i,
    signed16At_le16i, signed16At_le16i, numAt_le16, syncFaults_holdsBits k⟩

/-- Settles O25: each request by what its bytes name. -/
theorem referenceSettingsAreReplaced : Obligations.ReferenceSettingsAreReplaced := by
  intro s rest
  refine ⟨fun n w q m h z g hn hw1 hw31 hq hm1 hm63 hz hg hr p hp => ?profile, fun i p hi hp h v hv => ?input,
    fun h => ⟨_, timingBody_timingBodyOf _ _, execReadTiming_ready h⟩⟩
  case profile =>
    rw [execSetProfile_ready (profileOk_bytes hn hw1 hw31 hq hm1 hm63 hz hg) hr, hp]
    split <;> rfl
  case input =>
    rw [execSetInput_ready hi hp h, hv]
    by_cases hi0 : i = 0x00#8
    · rw [if_pos hi0, if_pos hi0]; rfl
    · rw [if_neg hi0, if_neg hi0]; rfl

/-! ## Entries to the lock states (07 R144, R147, R152; 08 R160) -/

theorem enterSearch_eq (s : State) :
    enterSearch s = { s with
      rlc := inSearch s.rlc, raster := inHold s.raster, att := s.att.occur (.lockChange s.rlc.lock .search) } :=
  enterSearch_frame s

theorem enterFlywheel_eq (s : State) :
    enterFlywheel s = { s with
      rlc := { s.rlc.toFlywheel with lock := .flywheel, fields := 0 }
      raster := inHold s.raster
      att := s.att.occur (.lockChange s.rlc.lock .flywheel) } := by
  have hlock : s.rlc.toFlywheel.lock = s.rlc.lock := by rw [RefLock.toFlywheel_frame]
  rw [enterFlywheel, changeLock_frame, State.withRlc_rlc, hlock]
  rfl

/-- LINE LOCK entered from any state ends in HOLD (07 R151; 08 R160). -/
theorem changeLock_lineLock (s : State) :
    changeLock s .lineLock = { s with
      rlc := { s.rlc with lock := .lineLock, fields := 0 }
      raster := inHold s.raster
      att := s.att.occur (.lockChange s.rlc.lock .lineLock) } :=
  changeLock_frame s .lineLock

theorem SyncFaults.union_mismatch (f : SyncFaults) : f.union { SyncFaults.none with mismatch := true } = withMismatch f := by
  simp [SyncFaults.union, SyncFaults.none, withMismatch]

/-- STANDARD MISMATCH added to the sync-fault set (07 R152). -/
theorem addFaults_mismatch (s : State) :
    addFaults s { SyncFaults.none with mismatch := true } = { s with
      rlc := { s.rlc with faults := withMismatch s.rlc.faults }, att := mismatchRaised s.rlc.faults s.att } := by
  rw [addFaults_frame, SyncFaults.union_mismatch]
  cases hm : s.rlc.faults.mismatch <;> simp [SyncFaults.newIn, SyncFaults.isEmpty, SyncFaults.none, mismatchRaised, hm]

/-! ## SELECT SOURCE (07 R149) -/

section
variable {s : State}

theorem moveForSwitch_search (h : s.rlc.lock = .search) : moveForSwitch s = { s with rlc := inSearch s.rlc } := by
  simp [moveForSwitch, h, State.withRlc, RefLock.toSearch, inSearch]

theorem moveForSwitch_lineLock (h : s.rlc.lock = .lineLock) :
    moveForSwitch s = { s with
      rlc := inSearch s.rlc, raster := inHold s.raster, att := s.att.occur (.lockChange .lineLock .search) } := by
  simp only [moveForSwitch, h, enterSearch_eq]

theorem moveForSwitch_frameLock (h : s.rlc.lock = .frameLock) :
    moveForSwitch s = { s with
      rlc := { s.rlc.toFlywheel with lock := .flywheel, fields := 0 }
      raster := inHold s.raster
      att := s.att.occur (.lockChange .frameLock .flywheel) } := by
  simp only [moveForSwitch, h, enterFlywheel_eq]

theorem moveForSwitch_flywheel (h : s.rlc.lock = .flywheel) :
    moveForSwitch s = { s with rlc := { s.rlc with
      lock := .flywheel, fields := 0, holdover := 0, goodCount := 0, waiting := false } } := by
  simp [moveForSwitch, h, State.withRlc, RefLock.restartHoldover]

/-- The other source is selected before the lock state moves, and the reply is OK (07 R149). -/
theorem execSelectSource_ready {rest : List Byte} {n : Byte} {new : Input} (hn : n.toNat ≤ 1)
    (hnew : new = if n = 0x00#8 then .a else .b) (h : RequestReady s 0x01#8 2 [n] rest) :
    exec .selectSource s = .next (if new = s.rlc.source then answered s rest 0x00#8 [] else replyOkTo (moveForSwitch
      { s with port := { s.port with requests := rest }, rlc := { s.rlc with source := new } })) := by
  have hok : decide (op8 [n] 0 ≤ 1) = true := decide_eq_true hn
  have hin : inputOf (op8 [n] 0) = new := (inputOf_byte n).trans hnew.symm
  refine congrArg Host.Outcome.next ?_
  rw [withRequest_accepted reqSelectSource (k := selectSource) rfl hok h (by simp) (by simp [reqSelectSource]), hin]
  rfl

end

/-- Entry to FLYWHEEL with no line open predicts one measured period after the last line's time (07 R144). -/
theorem RefLock.toFlywheel_closed {c : RefLock} (h : c.entered = false) :
    c.toFlywheel = { c with
      prediction := some (c.lineTime + c.period), nominalNext := none, holdover := 0, goodCount := 0, waiting := false } := by
  rw [RefLock.toFlywheel_frame]
  simp [RefLock.currentTime, h]

/-- Entry to FLYWHEEL settles a line that is open at its sync or predicted time (07 R144; log 38). -/
theorem RefLock.toFlywheel_open {c : RefLock} {p : Time} (h : c.entered = true) (hp : c.prediction = some p) :
    c.toFlywheel = { c with
      entered := false, lineTime := c.windowSync.getD p, lineGood := c.windowSync.isSome, windowSync := none
      prediction := some (c.windowSync.getD p + c.period), nominalNext := none, holdover := 0, goodCount := 0
      waiting := false } := by
  rw [RefLock.toFlywheel_frame]
  simp [RefLock.currentTime, h, hp]

/-- Settles O26: the switch by the lock state, and from FRAME LOCK by whether a line is open. -/
theorem selectSourceMovesTheLockState : Obligations.SelectSourceMovesTheLockState := by
  intro s n rest new hn hnew h
  have hexec := execSelectSource_ready hn hnew h
  have hother := fun hs : s.rlc.source ≠ new => hexec.trans (congrArg Host.Outcome.next (if_neg fun he => hs he.symm))
  refine ⟨fun hs => hexec.trans (congrArg Host.Outcome.next (if_pos hs.symm)), fun hs hl => ?search, fun hs hl => ?lineLock,
    fun hs _ c hc => ⟨fun hl he => ?closed, fun p lt hl he hp hlt => ?opened, fun hl => ?flywheel⟩⟩
  case search => rw [hother hs, moveForSwitch_search (by exact hl)]; rfl
  case lineLock => rw [hother hs, moveForSwitch_lineLock (by exact hl)]; rfl
  case closed => rw [hother hs, moveForSwitch_frameLock (by exact hl), RefLock.toFlywheel_closed (by exact he), hc]; rfl
  case opened =>
    rw [hother hs, moveForSwitch_frameLock (by exact hl), RefLock.toFlywheel_open (by exact he) (by exact hp), hc, hlt]
    rfl
  case flywheel => rw [hother hs, moveForSwitch_flywheel (by exact hl), hc]; rfl

/-! ## SET STANDARD (07 R136) -/

theorem RefLock.disallowed_iff (c : RefLock) :
    c.disallowed = true ↔ ∃ std, c.lock = .frameLock ∧ c.standard = some std ∧ Forbids c.setting std := by
  have hallows : ∀ std, c.setting.allows std = false ↔ Forbids c.setting std := fun std => by
    rw [← Bool.not_eq_true, StandardSetting.allows_iff, not_not]
  unfold RefLock.disallowed
  split
  · rename_i std hl hstd
    simp [hl, hstd, hallows]
  · rename_i hno
    simp only [Bool.false_eq_true, false_iff]
    rintro ⟨std, hl, hstd, _⟩
    exact hno std hl hstd

/-- FRAME LOCK left for LINE LOCK with the line timing kept (07 R136, R142). -/
theorem dropToLineLock_eq (s : State) (pair : Option Nat) :
    dropToLineLock s pair = { s with
      rlc := { s.rlc with field := none, pair := pair, lock := .lineLock, fields := 0 }
      raster := inHold s.raster
      att := s.att.occur (.lockChange s.rlc.lock .lineLock) } :=
  changeLock_lineLock _

theorem execSetStandard_ready {s : State} {n : Byte} {rest : List Byte} {z : StandardSetting}
    (hz : (n = 0x00#8 ∧ z = .auto) ∨ (n = 0x01#8 ∧ z = .only625) ∨ (n = 0x02#8 ∧ z = .only525))
    (h : RequestReady s 0x04#8 2 [n] rest) :
    exec .setStandard s = .next (replyOkTo (applySetting
      { s with port := { s.port with requests := rest }, rlc := { s.rlc with setting := z } })) := by
  have hbyte : n.toNat ≤ 2 ∧ settingOf n.toNat = z := by
    rcases hz with ⟨rfl, rfl⟩ | ⟨rfl, rfl⟩ | ⟨rfl, rfl⟩ <;> exact ⟨by decide, rfl⟩
  obtain ⟨hn, rfl⟩ := hbyte
  have hok : decide (op8 [n] 0 ≤ 2) = true := decide_eq_true hn
  refine congrArg Host.Outcome.next ?_
  rw [withRequest_accepted reqSetStandard (k := setStandard) rfl hok h (by simp) (by simp [reqSetStandard])]
  rfl

/-- Settles O27: the setting taken, and FRAME LOCK dropped exactly where it forbids the reference. -/
theorem setStandardMayDropFrameLock : Obligations.SetStandardMayDropFrameLock := by
  intro s n rest z hz h
  have hexec := execSetStandard_ready hz h
  refine ⟨fun hno => ?kept, fun std hl hstd hforbids => ?dropped⟩
  case kept =>
    rw [hexec, applySetting, if_neg (mt (RefLock.disallowed_iff _).mp hno)]
    rfl
  case dropped =>
    rw [hexec, applySetting, if_pos ((RefLock.disallowed_iff _).mpr (by exact ⟨std, hl, hstd, hforbids⟩)), addFaults_mismatch,
      dropToLineLock_eq, ← hl]
    rfl

end Sys2Proof.Machine
end

section
/-! PROOFS. The controller's share of a boundary, taken at once or by HOLDOVER_EXPIRY (07 R145, R150, R151, R153). -/

namespace Sys2Proof.Machine

theorem RefLock.expires_iff (c : RefLock) : c.expires = true ↔
    c.lock = .flywheel ∧ c.inForce.holdover ≠ 0 ∧ c.inForce.holdover ≤ min (c.holdover + 1) 255 := by
  simp [RefLock.expires, RefLock.holdoverNext, and_assoc]

section
variable {s : State}

theorem execFieldBoundary_ends (h : LastFieldLine s.raster) : exec .fieldBoundary s = .next (endField s) :=
  congrArg Host.Outcome.next (if_pos ((lastFieldLine_iff _).mp h))

/-- The controller after the end of a field with no share of an earlier boundary due (07 R153). -/
theorem endField_rlc (h : s.rlc.shareDue = false) : (endField s).rlc = afterShare s.rlc s.raster.slew s.raster.offset := by
  have hrlc : (takeBoundary s).rlc = _ := congrArg State.rlc (takeBoundary_eq s)
  rw [settleShare_none h] at hrlc
  exact hrlc

end

/-- A boundary that does not end the holdover counts, moves SRCSEL and refreshes the image (07 R145, R150, R151, R153). -/
theorem afterShare_counts {c : RefLock} (hdue : c.shareDue = false)
    (hno : ¬ (c.lock = .flywheel ∧ c.inForce.holdover ≠ 0 ∧ c.inForce.holdover ≤ min (c.holdover + 1) 255)) (w : Slew) (o : Int) :
    afterShare c w o = { c with
      holdover := if c.lock = .flywheel then min (c.holdover + 1) 255 else c.holdover
      fields := min (c.fields + 1) 65535, srcsel := c.source
      image := { lock := c.lock, slew := w.name, source := c.source, standard := c.standard, period := c.period
                 fieldLength := c.fieldLength, phaseLines := c.phaseLines, phaseSixteenths := c.phaseSixteenths
                 offset := o, fields := min (c.fields + 1) 65535 } } := by
  rw [afterShare, if_neg hno, ← hdue]

theorem SyncFaults.union_holdover (f : SyncFaults) :
    f.union { SyncFaults.none with holdover := true } = { f with holdover := true } := by
  simp [SyncFaults.union, SyncFaults.none]

/-- HOLDOVER EXPIRED added to the sync-fault set (07 R145, R152). -/
theorem addFaults_holdover (s : State) :
    addFaults s { SyncFaults.none with holdover := true } = { s with
      rlc := { s.rlc with faults := { s.rlc.faults with holdover := true } }
      att := if s.rlc.faults.holdover then s.att else s.att.occur (.syncFault { SyncFaults.none with holdover := true }) } := by
  rw [addFaults_frame, SyncFaults.union_holdover]
  cases hh : s.rlc.faults.holdover <;> simp [SyncFaults.newIn, SyncFaults.isEmpty, SyncFaults.none, hh]

/-- A share that ends the holdover: HOLDOVER EXPIRED, then SEARCH, then the rest of the share (07 R145, R153). -/
theorem takeShare_expires {s : State} (h : s.rlc.expires = true) :
    takeShare s = { s with
      rlc := ({ inSearch s.rlc with faults := { s.rlc.faults with holdover := true } } : RefLock).finishShare (inHold s.raster)
      raster := inHold s.raster
      att := (if s.rlc.faults.holdover then s.att else s.att.occur (.syncFault { SyncFaults.none with holdover := true })).occur
        (.lockChange s.rlc.lock .search) } := by
  rw [takeShare, if_pos h, addFaults_holdover, enterSearch_eq]
  rfl

/-- Settles O39: the share at its boundary, taken or left due, and the share left due taken by HOLDOVER_EXPIRY. -/
theorem controllerTakesItsShareOfABoundary : Obligations.ControllerTakesItsShareOfABoundary := by
  intro s expiry hexpiry
  refine ⟨fun hend hdue hno => ⟨_, execFieldBoundary_ends hend, ?taken⟩, fun hend hdue hyes => ⟨_, execFieldBoundary_ends hend, ?left⟩,
    fun hdue hyes => ⟨_, _, congrArg Host.Outcome.next ?expires, rfl, rfl⟩,
    fun hdue => congrArg Host.Outcome.next (settleShare_none hdue)⟩
  case taken => rw [endField_rlc hdue, afterShare_counts hdue (mt hexpiry.mpr hno)]
  case left => rw [endField_rlc hdue, afterShare, if_pos (hexpiry.mp hyes)]
  case expires =>
    have hlock := (hexpiry.mp hyes).1
    rw [settleShare, if_pos hdue, takeShare_expires ((RefLock.expires_iff _).mpr (hexpiry.mp hyes)), hlock]
    rfl

end Sys2Proof.Machine
end

section
/-! PROOFS. LINE SYNC in each lock state, and the phase error that a good FRAME LOCK line measures (07 R131, R137, R138, R146, R148;
08 R162, R164). -/

namespace Sys2Proof.Machine

/-! ## Spacings (07 R137, R146) -/

theorem RefLock.searchGood_iff (c : RefLock) (q : RasterParams) (sp : Int) : c.searchGood q sp = true ↔
    ∃ std, ¬ Forbids c.setting std ∧ NearNominal q c.window16 std sp := by
  have hnear : ∀ std, (c.setting.allows std && nearPeriod q c.window16 sp std) = true ↔
      ¬ Forbids c.setting std ∧ NearNominal q c.window16 std sp := fun std => by
    rw [Bool.and_eq_true, StandardSetting.allows_iff, nearPeriod_iff _ _ _ c.window16_nonneg]
  rw [RefLock.searchGood, Bool.or_eq_true, hnear, hnear]
  constructor
  · rintro (h | h)
    · exact ⟨_, h⟩
    · exact ⟨_, h⟩
  · rintro ⟨std, h⟩
    cases std with
    | s625 => exact .inl h
    | s525 => exact .inr h

theorem RefLock.flywheelGood_iff (c : RefLock) (q : RasterParams) (sp : Int) : c.flywheelGood q sp = true ↔
    ∃ std, c.standard = some std ∧ NearNominal q c.window16 std sp := by
  rw [RefLock.flywheelGood]
  cases c.standard with
  | none => simp
  | some std => simp [nearPeriod_iff _ _ _ c.window16_nonneg]

theorem RefLock.qualified_goodSpacing (c : RefLock) (t sp : Int) (z : OutPos) :
    (c.goodSpacing t sp z).qualified = true ↔ c.inForce.qualify ≤ c.goodCount + 1 :=
  decide_eq_true_iff

/-! ## Line syncs in SEARCH and FLYWHEEL (07 R137, R146) -/

section
variable {s : State} {t t0 : Time}

theorem searchSync_first (h0 : s.rlc.lastSync = none) :
    searchSync t s = { s with rlc := { s.rlc with lastSync := some t } } := by
  rw [searchSync, h0]; rfl

theorem searchSync_bad (h0 : s.rlc.lastSync = some t0) (hbad : ¬ s.rlc.searchGood s.raster.params (t - t0) = true) :
    searchSync t s = { s with rlc := s.rlc.badSpacing t } := by
  simp only [searchSync, h0, if_neg hbad]; rfl

theorem searchSync_addsOne (h0 : s.rlc.lastSync = some t0) (hgood : s.rlc.searchGood s.raster.params (t - t0) = true)
    (hq : s.rlc.goodCount + 1 < s.rlc.inForce.qualify) :
    searchSync t s = { s with rlc := s.rlc.goodSpacing t (t - t0) (s.raster.outAt t) } := by
  simp only [searchSync, h0, if_pos hgood]
  exact if_neg (mt (s.rlc.qualified_goodSpacing _ _ _).mp (Nat.not_le.mpr hq))

/-- The qualify count reached in SEARCH enters LINE LOCK (07 R137, R138). -/
theorem searchSync_qualifies (h0 : s.rlc.lastSync = some t0) (hgood : s.rlc.searchGood s.raster.params (t - t0) = true)
    (hq : s.rlc.inForce.qualify ≤ s.rlc.goodCount + 1) :
    searchSync t s = changeLock (s.withRlc ((s.rlc.goodSpacing t (t - t0) (s.raster.outAt t)).toLineLock t (t - t0)
      (s.raster.outAt t))) .lineLock := by
  simp only [searchSync, h0, if_pos hgood]
  exact if_pos ((s.rlc.qualified_goodSpacing _ _ _).mpr hq)

theorem flywheelSync_first (h0 : s.rlc.lastSync = none) :
    flywheelSync t s = { s with rlc := { s.rlc with lastSync := some t } } := by
  rw [flywheelSync, h0]; rfl

theorem flywheelSync_bad (h0 : s.rlc.lastSync = some t0) (hbad : ¬ s.rlc.flywheelGood s.raster.params (t - t0) = true) :
    flywheelSync t s = { s with rlc := s.rlc.badSpacing t } := by
  simp only [flywheelSync, h0, if_neg hbad]; rfl

/-- A good spacing in FLYWHEEL counts, and at the qualify count the controller waits for confirmation (07 R146). -/
theorem flywheelSync_good (h0 : s.rlc.lastSync = some t0) (hgood : s.rlc.flywheelGood s.raster.params (t - t0) = true) :
    flywheelSync t s = { s with rlc := { s.rlc.goodSpacing t (t - t0) (s.raster.outAt t) with
      waiting := s.rlc.waiting || (s.rlc.goodSpacing t (t - t0) (s.raster.outAt t)).qualified } } := by
  simp only [flywheelSync, h0, if_pos hgood]; rfl

theorem flywheelSync_addsOne (h0 : s.rlc.lastSync = some t0) (hgood : s.rlc.flywheelGood s.raster.params (t - t0) = true)
    (hq : s.rlc.goodCount + 1 < s.rlc.inForce.qualify) :
    flywheelSync t s = { s with rlc := s.rlc.goodSpacing t (t - t0) (s.raster.outAt t) } := by
  have hnot : (s.rlc.goodSpacing t (t - t0) (s.raster.outAt t)).qualified = false :=
    Bool.eq_false_iff.mpr (mt (s.rlc.qualified_goodSpacing _ _ _).mp (Nat.not_le.mpr hq))
  rw [flywheelSync_good h0 hgood, hnot, Bool.or_false]
  rfl

theorem flywheelSync_waits (h0 : s.rlc.lastSync = some t0) (hgood : s.rlc.flywheelGood s.raster.params (t - t0) = true)
    (hq : s.rlc.inForce.qualify ≤ s.rlc.goodCount + 1) :
    flywheelSync t s = { s with rlc := { s.rlc.goodSpacing t (t - t0) (s.raster.outAt t) with waiting := true } } := by
  rw [flywheelSync_good h0 hgood, (s.rlc.qualified_goodSpacing _ _ _).mpr hq, Bool.or_true]

/-! ## Line syncs in LINE LOCK and FRAME LOCK (07 R138) -/

/-- A sync is the first in its window when it lies in the window and none has come before it (07 R138). -/
theorem RefLock.firstInWindow_iff {c : RefLock} {p : Time} (hp : c.prediction = some p) (t : Time) :
    c.firstInWindow t = true ↔
      (p - c.window16 ≤ t ∧ t ≤ p + c.window16) ∧ (c.entered = true → c.windowSync = none) := by
  rw [RefLock.firstInWindow, Bool.and_eq_true, RefLock.inWindow_iff hp]
  cases c.entered <;> simp

/-- The controller once the sync of the line in progress has come at t, the output being at z (07 R138; log 23). -/
def RefLock.lineSynced (c : RefLock) (t : Time) (z : OutPos) : RefLock :=
  { c with lastSync := some t, windowSync := some t, goodTime := t, sinceGood := 0, lineOut := some z, goodOut := z }

theorem windowedSync_remembered (h : ¬ s.rlc.firstInWindow t = true) :
    windowedSync t s = { s with rlc := { s.rlc with lastSync := some t } } := by
  rw [windowedSync, if_neg h]; rfl

/-- The first sync in the window makes its line good, and outside the zone of a FRAME LOCK field measures the phase error (07 R138,
R143, R148). -/
theorem windowedSync_first (h : s.rlc.firstInWindow t = true) :
    windowedSync t s =
      if s.rlc.ensureEntered.lock = .frameLock ∧ s.rlc.ensureEntered.inZone = false then
        measurePhase (s.withRlc (s.rlc.ensureEntered.lineSynced t (s.raster.outAt t))) (s.raster.outAt t) t
      else s.withRlc (s.rlc.ensureEntered.lineSynced t (s.raster.outAt t)) := by
  rw [windowedSync, if_pos h]; rfl

/-- A sync that enters its own line does what it does on the line entered before it (07 R138; log 23). -/
theorem windowedSync_enterLine {p : Time} (hp : s.rlc.prediction = some p) (h1 : p - s.rlc.window16 ≤ t)
    (h2 : t ≤ p + s.rlc.window16) (he : s.rlc.entered = false) :
    windowedSync t s = windowedSync t { s with rlc := s.rlc.enterLine } := by
  have hfirst : s.rlc.firstInWindow t = true := (RefLock.firstInWindow_iff hp t).mpr ⟨⟨h1, h2⟩, by simp [he]⟩
  have hfirst' : s.rlc.enterLine.firstInWindow t = true :=
    (RefLock.firstInWindow_iff (by exact hp) t).mpr ⟨⟨h1, h2⟩, fun _ => rfl⟩
  rw [windowedSync_first hfirst, windowedSync_first (by exact hfirst'), RefLock.enterLine_ensureEntered he]
  rfl

/-! ## The phase error measured (07 R148) -/

theorem measurePhase_equal {std : Standard} {f : RefField} (hstd : s.rlc.standard = some std) (hf : s.rlc.field = some f)
    (he : std = s.raster.std) (z : OutPos) (t : Time) :
    measurePhase s z t = { s with
      rlc := s.rlc.recordPhase s.raster.line16 (phaseError s.raster (refFrameLine std f) z)
      raster := s.raster.takePhase s.rlc.inForce.trackGain (phaseError s.raster (refFrameLine std f) z) t } := by
  simp only [measurePhase, hstd, hf, if_pos he]; rfl

theorem measurePhase_differ {std : Standard} (hstd : s.rlc.standard = some std) (hne : std ≠ s.raster.std) (z : OutPos) (t : Time) :
    measurePhase s z t = s := by
  unfold measurePhase
  split
  · rename_i std' f hstd' hf
    exact if_neg fun he => hne ((Option.some.inj (hstd.symm.trans hstd')).trans he)
  · rfl

/-- A measurement touches the recorded phase and the raster alone (07 R148). -/
theorem measurePhase_frame (s : State) (z : OutPos) (t : Time) :
    ∃ a b r, measurePhase s z t = { s with rlc := { s.rlc with phaseLines := a, phaseSixteenths := b }, raster := r } := by
  unfold measurePhase
  split
  · split
    · exact ⟨_, _, _, rfl⟩
    · exact ⟨_, _, _, rfl⟩
  · exact ⟨_, _, _, rfl⟩

/-- What a first sync in the window leaves, but for the phase that it records and steers by (07 R138; log 23). -/
theorem windowedSync_first_frame (h : s.rlc.firstInWindow t = true) :
    ∃ a b r, windowedSync t s = { s with
        rlc := { s.rlc.ensureEntered.lineSynced t (s.raster.outAt t) with phaseLines := a, phaseSixteenths := b }, raster := r } ∧
      (s.rlc.lock = .lineLock → r = s.raster) := by
  have hlock : s.rlc.ensureEntered.lock = s.rlc.lock := by rw [RefLock.ensureEntered_frame]
  rw [windowedSync_first h, hlock]
  split
  · rename_i hmeasured
    obtain ⟨a, b, r, hu⟩ := measurePhase_frame (s.withRlc (s.rlc.ensureEntered.lineSynced t (s.raster.outAt t))) (s.raster.outAt t) t
    exact ⟨a, b, r, hu, fun hl => nomatch hl.symm.trans hmeasured.1⟩
  · exact ⟨_, _, _, rfl, fun _ => rfl⟩

/-! ## LINE SYNC by lock state -/

theorem lineSync_search (hl : s.rlc.lock = .search) : lineSync s.rlc.source t s = searchSync t s := by
  simp only [lineSync, if_true, hl]

theorem lineSync_flywheel (hl : s.rlc.lock = .flywheel) : lineSync s.rlc.source t s = flywheelSync t s := by
  simp only [lineSync, if_true, hl]

theorem lineSync_windowed (hl : s.rlc.lock = .lineLock ∨ s.rlc.lock = .frameLock) :
    lineSync s.rlc.source t s = windowedSync t s := by
  rcases hl with hl | hl <;> simp only [lineSync, if_true, hl]

end

/-- Settles O51: SEARCH and FLYWHEEL by the spacing and the count, LINE LOCK and FRAME LOCK by the window. -/
theorem lineSyncsQualifyAndHoldTheLock : Obligations.LineSyncsQualifyAndHoldTheLock := by
  rintro s x t w rfl
  refine ⟨fun hx => congrArg Host.Outcome.next (if_neg hx), ?spacings, ?windows⟩
  case spacings =>
    rintro rfl hl
    refine ⟨fun h0 => congrArg Host.Outcome.next ?first, fun t0 good c h0 hsearch hflywheel hc =>
      ⟨fun hbad => congrArg Host.Outcome.next ?bad, fun hgood hq => congrArg Host.Outcome.next ?counts,
        fun hgood hq => ⟨fun hf => congrArg Host.Outcome.next ?waits, fun hs => congrArg Host.Outcome.next ?enters⟩⟩⟩
    case first =>
      rcases hl with hs | hf
      · rw [lineSync_search hs, searchSync_first h0]
      · rw [lineSync_flywheel hf, flywheelSync_first h0]
    case bad =>
      rcases hl with hs | hf
      · rw [lineSync_search hs, searchSync_bad h0 fun h => hbad ((hsearch hs).mpr ((RefLock.searchGood_iff _ _ _).mp h))]
        rfl
      · rw [lineSync_flywheel hf, flywheelSync_bad h0 fun h => hbad ((hflywheel hf).mpr ((RefLock.flywheelGood_iff _ _ _).mp h))]
        rfl
    case counts =>
      rw [hc]
      rcases hl with hs | hf
      · rw [lineSync_search hs, searchSync_addsOne h0 ((RefLock.searchGood_iff _ _ _).mpr ((hsearch hs).mp hgood)) hq]
        rfl
      · rw [lineSync_flywheel hf, flywheelSync_addsOne h0 ((RefLock.flywheelGood_iff _ _ _).mpr ((hflywheel hf).mp hgood)) hq]
        rfl
    case waits =>
      rw [hc, lineSync_flywheel hf, flywheelSync_waits h0 ((RefLock.flywheelGood_iff _ _ _).mpr ((hflywheel hf).mp hgood)) hq]
      rfl
    case enters =>
      rw [hc, lineSync_search hs, searchSync_qualifies h0 ((RefLock.searchGood_iff _ _ _).mpr ((hsearch hs).mp hgood)) hq,
        changeLock_lineLock, ← hs]
      rfl
  case windows =>
    rintro p rfl hl hp
    have hfirst := RefLock.firstInWindow_iff hp t
    refine ⟨fun hout => congrArg Host.Outcome.next ?remembered, fun h1 h2 hopen => ?taken⟩
    case remembered =>
      rw [lineSync_windowed hl, windowedSync_remembered]
      intro h
      obtain ⟨hin, hnone⟩ := hfirst.mp h
      rcases hout with hout | ⟨he, hsome⟩
      · exact hout hin
      · exact hsome (hnone he)
    case taken =>
      obtain ⟨a, b, r, hu, hr⟩ := windowedSync_first_frame (hfirst.mpr ⟨⟨h1, h2⟩, hopen⟩)
      rw [RefLock.ensureEntered_frame] at hu
      exact ⟨_, congrArg Host.Outcome.next ((lineSync_windowed hl).trans hu), rfl, rfl, rfl, rfl, rfl, rfl, rfl, hp, hr⟩

/-! ## The Raster Generator takes the phase error (08 R162, R164) -/

theorem RefLock.inZone_iff (c : RefLock) : c.inZone = true ↔ InZone c := by
  unfold RefLock.inZone InZone
  split
  · rename_i std f hl hstd hf
    simp [hl, hstd, hf]
  · rename_i hno
    simp only [Bool.false_eq_true, false_iff]
    rintro ⟨hl, std, f, hstd, hf, _⟩
    exact hno std f hl hstd hf

section
variable {r : Raster} {e : Int}

theorem Raster.captures_within (h : e.natAbs ≤ 16 * r.params.captureWindow) : r.captures e = true := decide_eq_true h

theorem Raster.captures_beyond (h : 16 * r.params.captureWindow < e.natAbs) : ¬ r.captures e = true :=
  fun hc => absurd (of_decide_eq_true hc) (Nat.not_le.mpr h)

variable (gain : Nat) (t : Time)

theorem Raster.takePhase_hold (hw : r.slew = .hold) : r.takePhase gain e t = r := by
  rw [Raster.takePhase, hw]

/-- TRACK's correction states the position again and moves the offset (08 R162; log 6). -/
theorem Raster.takePhase_track_within (hw : r.slew = .track) (h : e.natAbs ≤ 16 * r.params.captureWindow) :
    r.takePhase gain e t =
      { r with offset := trackOffset r.params.pullLimit r.offset e gain, pos := r.posAt t, posTime := t } := by
  simp only [Raster.takePhase, hw, if_pos (Raster.captures_within h)]
  rw [← hw]
  rfl

/-- Beyond the capture window TRACK starts a ramp (08 R162, R163). -/
theorem Raster.takePhase_track_beyond (hw : r.slew = .track) (h : 16 * r.params.captureWindow < e.natAbs) :
    r.takePhase gain e t = { inHold r with slew := .slew { stage := .up, gain := decide (0 < e), err := e } } := by
  simp only [Raster.takePhase, hw, if_neg (Raster.captures_beyond h)]
  rfl

theorem Raster.takePhase_slew_within {w : Ramp} (hw : r.slew = .slew w) (h : e.natAbs ≤ 16 * r.params.captureWindow) :
    r.takePhase gain e t = { inHold r with slew := .track } := by
  simp only [Raster.takePhase, hw, if_pos (Raster.captures_within h)]
  rfl

theorem Raster.takePhase_slew_beyond {w : Ramp} (hw : r.slew = .slew w) (h : 16 * r.params.captureWindow < e.natAbs) :
    r.takePhase gain e t = { r with slew := .slew { w with err := e } } := by
  simp only [Raster.takePhase, hw, if_neg (Raster.captures_beyond h)]

end

/-- Settles O52: a sync enters its own line first, and on an open line the measurement is made or not. -/
theorem phaseErrorsSteerTheOutput : Obligations.PhaseErrorsSteerTheOutput := by
  refine ⟨fun s t p w hl hp hw h1 h2 he => congrArg Host.Outcome.next ?enters,
    fun s t p w std f hranges hl hp hw h1 h2 he hnone hstd hf => ?measures⟩
  case enters =>
    subst hw
    rw [lineSync_windowed hl, windowedSync_enterLine hp h1 h2 he]
    exact (lineSync_windowed (s := { s with rlc := s.rlc.enterLine }) hl).symm
  case measures =>
    subst hw
    have hsync := (lineSync_windowed (.inr hl)).trans
      (windowedSync_first ((RefLock.firstInWindow_iff hp t).mpr ⟨⟨h1, h2⟩, fun _ => hnone⟩))
    rw [RefLock.ensureEntered_of he] at hsync
    refine ⟨fun hno => ⟨s.withRlc (s.rlc.lineSynced t (s.raster.outAt t)), congrArg Host.Outcome.next ?none, rfl, rfl, rfl⟩,
      fun heq hzone => ?steers⟩
    case none =>
      rw [hsync]
      split
      · rename_i hmeasured
        have hout : ¬ InZone s.rlc := fun hin => Bool.false_ne_true (hmeasured.2.symm.trans ((RefLock.inZone_iff _).mpr hin))
        exact measurePhase_differ (by exact hstd) (by exact hno.resolve_right hout) _ _
      · rfl
    case steers =>
      have hout : s.rlc.inZone = false := Bool.eq_false_iff.mpr (mt (RefLock.inZone_iff _).mp hzone)
      rw [if_pos ⟨hl, hout⟩, measurePhase_equal (by exact hstd) (by exact hf) (by exact heq)] at hsync
      obtain ⟨k, hk, hlo, hhi⟩ := phaseError_spec hranges (refFrameLine std f) (s.raster.outAt t)
      exact ⟨_, _, k, _, congrArg Host.Outcome.next hsync, rfl, hk, hlo, hhi, rfl, rfl, Raster.takePhase_hold _ _,
        fun hw h => ⟨_, Raster.takePhase_track_within _ _ hw h, rfl⟩, Raster.takePhase_track_beyond _ _,
        fun w hw => ⟨Raster.takePhase_slew_within _ _ hw, Raster.takePhase_slew_beyond _ _ hw⟩⟩

end Sys2Proof.Machine
end

section
/-! PROOFS. LINE WINDOW CLOSE decides a line, and FLYWHEEL passes lines by prediction (07 R138, R141, R143, R144). -/

namespace Sys2Proof.Machine

/-! ## Entering a line (07 R138, R139, R141) -/

section
variable {c : RefLock} {std : Standard} {f : RefField} (hstd : c.standard = some std) (hf : c.field = some f)
include hstd hf

/-- Short of its expected length the field counts the line (07 R141). -/
theorem RefLock.enterLine_within (h : f.count + 1 < expectedLines std f.id) :
    c.enterLine.field = some { f with count := f.count + 1 } ∧ c.enterLine.fieldLength = c.fieldLength := by
  have hnot : ¬ expectedLines std f.id ≤ f.count + 1 := Nat.not_le.mpr h
  constructor
  · simp only [RefLock.enterLine, RefLock.fieldAfterLine, hstd, hf, RefField.nextLine, if_neg hnot]
  · simp only [RefLock.enterLine, RefLock.lengthAfterLine, hstd, hf]
    split
    · rename_i _ hstd' hf'
      cases hstd'
      cases hf'
      exact if_neg hnot
    · rfl

/-- At its expected length the field ends by prediction, and FRAME LOCK records that length (07 R141; log 21). -/
theorem RefLock.enterLine_ends (h : expectedLines std f.id ≤ f.count + 1) :
    c.enterLine.field = some { id := f.id.other, count := 0, predicted := true } ∧
      (c.lock = .frameLock → c.enterLine.fieldLength = expectedLines std f.id) ∧
      (c.lock ≠ .frameLock → c.enterLine.fieldLength = c.fieldLength) := by
  refine ⟨?_, fun hl => ?_, fun hl => ?_⟩
  · simp only [RefLock.enterLine, RefLock.fieldAfterLine, hstd, hf, RefField.nextLine, if_pos h]
  · simp only [RefLock.enterLine, RefLock.lengthAfterLine, hl, hstd, hf, if_pos h]
  · simp only [RefLock.enterLine, RefLock.lengthAfterLine]
    split
    · rename_i hl' _ _
      exact absurd hl' hl
    · rfl

end

/-! ## Deciding a line (07 R138, R143) -/

section
variable {c : RefLock} {t p : Time}

/-- The measured period after a good line: the spacing of two good lines outside the zone, and otherwise the old one (07 R138,
R143). -/
def RefLock.periodAt (c : RefLock) (t : Time) : Int := if c.lineGood && !c.inZone then t - c.lineTime else c.period

theorem RefLock.periodAt_measured (hg : c.lineGood = true) (hz : ¬ InZone c) : c.periodAt t = t - c.lineTime :=
  if_pos (by rw [hg, Bool.eq_false_iff.mpr (mt c.inZone_iff.mp hz)]; rfl)

theorem RefLock.periodAt_kept (h : c.lineGood = false ∨ InZone c) : c.periodAt t = c.period := by
  refine if_neg ?_
  rcases h with hg | hz
  · rw [hg]; exact Bool.false_ne_true
  · rw [c.inZone_iff.mpr hz, Bool.not_true, Bool.and_false]; exact Bool.false_ne_true

/-- A line whose sync has come is good (07 R138). -/
theorem RefLock.decideLine_good (hw : c.windowSync = some t) :
    c.decideLine = { c with
      lineTime := t, lineGood := true, period := c.periodAt t, missCount := 0
      prediction := some (t + c.nominalNext.getD (c.periodAt t)), nominalNext := none, entered := false, windowSync := none } := by
  rw [RefLock.decideLine, hw]
  rfl

/-- A line without a sync is missed, and counted outside the zone (07 R138, R143). -/
theorem RefLock.decideLine_missed (he : c.entered = true) (hw : c.windowSync = none) (hp : c.prediction = some p) :
    c.decideLine = { c with
      lineTime := p, lineGood := false, missCount := if c.inZone then c.missCount else c.missCount + 1
      prediction := some (p + c.nominalNext.getD c.period), nominalNext := none, entered := false } := by
  have htime : c.currentTime = p := by simp [RefLock.currentTime, he, hw, hp]
  rw [← htime]
  simp only [RefLock.decideLine, hw]

theorem RefLock.missReachesLimit_good (hw : c.windowSync = some t) : c.missReachesLimit = false := by
  simp [RefLock.missReachesLimit, hw]

theorem RefLock.missReachesLimit_iff (hw : c.windowSync = none) :
    c.missReachesLimit = true ↔ ¬ InZone c ∧ c.inForce.missLimit ≤ c.missCount + 1 := by
  simp [RefLock.missReachesLimit, hw, ← c.inZone_iff]

end

/-! ## LINE WINDOW CLOSE (07 R138, R144) -/

section
variable {s : State}

theorem execLineWindowClose_due {p : Time} (hl : s.rlc.lock = .lineLock ∨ s.rlc.lock = .frameLock) (hp : s.rlc.prediction = some p) :
    exec .lineWindowClose s = .next (closeWindow s) := by
  refine congrArg Host.Outcome.next (if_pos ?_)
  rcases hl with hl | hl <;> simp [RefLock.hasWindow, hl, hp]

/-- A close that the lock state does not have changes nothing (log 2). -/
theorem execLineWindowClose_notDue (h : (s.rlc.lock ≠ .lineLock ∧ s.rlc.lock ≠ .frameLock) ∨ s.rlc.prediction = none) :
    exec .lineWindowClose s = .next s := by
  refine congrArg Host.Outcome.next (if_neg ?_)
  rcases h with ⟨h1, h2⟩ | hp
  · simp [RefLock.hasWindow, h1, h2]
  · simp [RefLock.hasWindow, hp]

/-- The close enters a line that no sync has entered (07 R138). -/
theorem closeWindow_enterLine (he : s.rlc.entered = false) : closeWindow s = closeWindow { s with rlc := s.rlc.enterLine } := by
  have henter : s.rlc.enterLine.ensureEntered = s.rlc.ensureEntered := RefLock.enterLine_ensureEntered he
  simp only [closeWindow, henter]
  rfl

theorem closeWindow_good {t : Time} (he : s.rlc.entered = true) (hw : s.rlc.windowSync = some t) :
    closeWindow s = { s with rlc := s.rlc.decideLine } := by
  simp only [closeWindow, RefLock.ensureEntered_of he, RefLock.missReachesLimit_good hw]
  rfl

theorem closeWindow_missed (he : s.rlc.entered = true) (h : ¬ s.rlc.missReachesLimit = true) :
    closeWindow s = { s with rlc := s.rlc.decideLine } := by
  simp only [closeWindow, RefLock.ensureEntered_of he, if_neg h]
  rfl

theorem closeWindow_limit (he : s.rlc.entered = true) (h : s.rlc.missReachesLimit = true) :
    closeWindow s = loseLines { s with rlc := s.rlc.decideLine } := by
  simp only [closeWindow, RefLock.ensureEntered_of he, if_pos h]
  rfl

theorem loseLines_lineLock (hl : s.rlc.lock = .lineLock) : loseLines s = enterSearch s := by
  simp only [loseLines, hl]

theorem loseLines_frameLock (hl : s.rlc.lock = .frameLock) : loseLines s = enterFlywheel s := by
  simp only [loseLines, hl]

/-! ## FLYWHEEL PREDICTED LINE (07 R144) -/

theorem passFlywheelLine_passes {p : Time} (hl : s.rlc.lock = .flywheel) (hp : s.rlc.prediction = some p) :
    passFlywheelLine s = { s with rlc := s.rlc.flywheelLine p } := by
  simp only [passFlywheelLine, hl, hp]
  rfl

theorem passFlywheelLine_notDue (hl : s.rlc.lock ≠ .flywheel) : passFlywheelLine s = s := by
  unfold passFlywheelLine
  split
  · rename_i hl' _
    exact absurd hl' hl
  · rfl

end

/-- Settles O53: a close by whether the line's sync has come and the miss limit is reached, and a line passed by prediction. -/
theorem windowsCloseGoodOrMissed : Obligations.WindowsCloseGoodOrMissed := by
  refine ⟨fun s p hp hl => ⟨fun he => ?enters, fun t he hw => ⟨s.rlc.periodAt t, ?good, RefLock.periodAt_measured, RefLock.periodAt_kept⟩,
      fun c limit he hw hlimit hc hin hout => ?missed⟩,
    fun s => execLineWindowClose_notDue, fun s p hl hp => congrArg Host.Outcome.next (passFlywheelLine_passes hl hp),
    fun s hl => congrArg Host.Outcome.next (passFlywheelLine_notDue hl),
    fun c => ⟨rfl, fun std f hstd hf => ⟨RefLock.enterLine_within hstd hf, RefLock.enterLine_ends hstd hf⟩⟩⟩
  case enters =>
    rw [execLineWindowClose_due hl hp, execLineWindowClose_due (by exact hl) (by exact hp), closeWindow_enterLine he]
  case good => rw [execLineWindowClose_due hl hp, closeWindow_good he hw, RefLock.decideLine_good hw]
  case missed =>
    generalize c.missCount = count at hc hin hout
    subst hc
    have hcount : (if s.rlc.inZone then s.rlc.missCount else s.rlc.missCount + 1) = count := by
      by_cases hz : InZone s.rlc
      · rw [if_pos (s.rlc.inZone_iff.mpr hz), hin hz]
      · rw [if_neg (mt s.rlc.inZone_iff.mp hz), hout hz]
    have hdecided := RefLock.decideLine_missed he hw hp
    have hreaches := (RefLock.missReachesLimit_iff hw).trans hlimit.symm
    rw [hcount] at hdecided
    rw [execLineWindowClose_due hl hp]
    refine ⟨fun hno => congrArg Host.Outcome.next ?counted, fun hyes hline => congrArg Host.Outcome.next ?search,
      fun hyes hframe => congrArg Host.Outcome.next ?flywheel⟩
    case counted => rw [closeWindow_missed he (mt hreaches.mp hno), hdecided]
    case search =>
      rw [closeWindow_limit he (hreaches.mpr hyes), hdecided, loseLines_lineLock (by exact hline), enterSearch_eq, ← hline]
    case flywheel =>
      rw [closeWindow_limit he (hreaches.mpr hyes), hdecided, loseLines_frameLock (by exact hframe), enterFlywheel_eq,
        RefLock.toFlywheel_closed rfl, ← hframe]

end Sys2Proof.Machine
end

section
/-! PROOFS. FIELD SYNC: identification in LINE LOCK, the checks of a FRAME LOCK field, confirmation in FLYWHEEL, and the entry to FRAME LOCK
(07 R131, R139 to R142, R146, R148; 08 R161, R166). -/

namespace Sys2Proof.Machine

/-! ## The line that a field sync belongs to (07 R139; log 22) -/

section
variable {c : RefLock} {t p : Time}

theorem RefLock.lineOfEvent_opened (hp : c.prediction = some p) (h : p - c.window16 ≤ t) : c.lineOfEvent t = c.ensureEntered := by
  refine if_pos ?_
  rw [RefLock.windowOpened, hp]
  exact decide_eq_true h

/-- An event belongs to the line already entered, and to the last one before the next window opens (07 R139). -/
theorem RefLock.lineOfEvent_current (h : c.entered = true ∨ ∃ p, c.prediction = some p ∧ t < p - c.window16) :
    c.lineOfEvent t = c := by
  rcases h with he | ⟨p, hp, hlt⟩
  · rw [RefLock.lineOfEvent, RefLock.ensureEntered_of he, ite_self]
  · refine if_neg ?_
    rw [RefLock.windowOpened, hp]
    exact fun h => absurd (of_decide_eq_true h) (Int.not_le.mpr hlt)

theorem RefLock.lineOfEvent_enterLine (he : c.entered = false) (hp : c.prediction = some p) (h : p - c.window16 ≤ t) :
    c.enterLine.lineOfEvent t = c.lineOfEvent t := by
  rw [RefLock.lineOfEvent_opened hp h, RefLock.lineOfEvent_opened (by exact hp) (by exact h), RefLock.enterLine_ensureEntered he]

end

/-! ## FIELD SYNC by lock state -/

section
variable {s : State} {pat : Pattern} {t : Time}

theorem fieldSync_disregarded {x : Input}
    (h : x ≠ s.rlc.source ∨ s.rlc.lock = .search ∨ (s.rlc.lock = .flywheel ∧ s.rlc.waiting = false)) :
    fieldSync x pat t s = s := by
  unfold fieldSync
  split
  · rename_i hx
    rcases h with hne | hl | ⟨hl, hw⟩
    · exact absurd hx hne
    · simp only [hl]
    · simp only [hl, flywheelFieldSync, hw]
  · rfl

theorem fieldSync_lineLock (hl : s.rlc.lock = .lineLock) : fieldSync s.rlc.source pat t s = pairSync pat t s := by
  simp only [fieldSync, if_true, hl]

theorem fieldSync_frameLock (hl : s.rlc.lock = .frameLock) : fieldSync s.rlc.source pat t s = frameSync pat t s := by
  simp only [fieldSync, if_true, hl]

theorem fieldSync_confirms {std : Standard} (hl : s.rlc.lock = .flywheel) (hw : s.rlc.waiting = true)
    (hstd : s.rlc.standard = some std) : fieldSync s.rlc.source pat t s = confirm std pat t s := by
  simp only [fieldSync, if_true, hl, flywheelFieldSync, hw, hstd]

/-- A field sync that enters its own line does what it does on the line entered before it (07 R139; log 22). -/
theorem fieldSync_enterLine {p : Time} (hl : s.rlc.lock = .lineLock ∨ s.rlc.lock = .frameLock) (he : s.rlc.entered = false)
    (hp : s.rlc.prediction = some p) (h : p - s.rlc.window16 ≤ t) :
    fieldSync s.rlc.source pat t s = fieldSync s.rlc.source pat t { s with rlc := s.rlc.enterLine } := by
  have hline := RefLock.lineOfEvent_enterLine he hp h
  rcases hl with hl | hl
  · have hsync : pairSync pat t s = pairSync pat t { s with rlc := s.rlc.enterLine } := by
      rw [pairSync, pairSync, hline]
      rfl
    exact (fieldSync_lineLock hl).trans (hsync.trans (fieldSync_lineLock (s := { s with rlc := s.rlc.enterLine }) hl).symm)
  · have hsync : frameSync pat t s = frameSync pat t { s with rlc := s.rlc.enterLine } := by
      rw [frameSync, frameSync, hline]
      rfl
    exact (fieldSync_frameLock hl).trans (hsync.trans (fieldSync_frameLock (s := { s with rlc := s.rlc.enterLine }) hl).symm)

/-! ## Entry to FRAME LOCK (07 R140, R148; 08 R161) -/

section
variable {std : Standard} {f : RefField} (hstd : s.rlc.standard = some std) (hf : s.rlc.field = some f)
include hstd hf

theorem entryDecision_differ (hne : std ≠ s.raster.std) : entryDecision s t = hardAlign s .standardChange t := by
  simp only [entryDecision, hstd, hf, if_neg hne]

theorem entryDecision_equal (heq : std = s.raster.std) :
    entryDecision s t = entrySteer
      (s.withRlc (s.rlc.recordPhase s.raster.line16 (phaseError s.raster (refFrameLine std f) (entryOutput s))))
      (phaseError s.raster (refFrameLine std f) (entryOutput s)) t := by
  simp only [entryDecision, hstd, hf, if_pos heq]

end

/-- FRAME LOCK entered by the controller c as the statements say (07 R140). -/
theorem enterFrameLock_enters {std : Standard} {c : RefLock} (hranges : RasterRanges s.raster) (hstd : c.standard = some std)
    (hlock : c.lock = s.rlc.lock) :
    EntersFrameLock s (enterFrameLock { s with rlc := c } pat t) c std pat t := by
  intro id d z att hid hd hnone hsome hatt
  have hpat : patternId pat = id := by rw [hid]; cases pat <;> rfl
  have hz : c.lineOut.getD (s.raster.outAt c.currentTime) = z := by
    cases hout : c.lineOut with
    | none => exact (hnone hout).symm
    | some y => exact (hsome y hout).symm
  have hlocked : changeLock ({ s with rlc := c }.withRlc (c.toFrameLock pat)) .frameLock = { s with rlc := d, att := att } := by
    rw [changeLock_frame, hd, hatt, ← hstd, ← hpat, ← hlock]
    rfl
  have henter : enterFrameLock { s with rlc := c } pat t = entryDecision { s with rlc := d, att := att } t :=
    congrArg (entryDecision · t) hlocked
  have hentered : d.standard = some std ∧ d.field = some { id := id, count := 0, predicted := false } := by
    rw [hd]; exact ⟨rfl, rfl⟩
  have houtput : entryOutput { s with rlc := d, att := att } = z := by rw [← hz, hd]; rfl
  obtain ⟨hstd', hfield⟩ := hentered
  rw [henter]
  refine ⟨fun hne => ?differ, fun heq => ?equal⟩
  case differ =>
    have hnew : alignStandard { s with rlc := d, att := att } .standardChange = std := congrArg (Option.getD · s.raster.std) hstd'
    have halign := hardAlign_aligned { s with rlc := d, att := att } .standardChange t
    rw [entryDecision_differ (by exact hstd') (by exact hfield) (by exact hne)]
    rwa [hnew] at halign
  case equal =>
    subst heq
    rw [entryDecision_equal (by exact hstd') (by exact hfield) rfl, houtput]
    obtain ⟨k, hk, hlo, hhi⟩ := phaseError_spec hranges (refFrameLine s.raster.std { id := id, count := 0, predicted := false }) z
    exact ⟨_, k, _, hk, hlo, hhi, rfl, fun h => entrySteer_captured (by exact h) t,
      fun h hq hv => by rw [entrySteer_quick (by exact h) (by exact hq) (by exact hv)]; exact hardAlign_aligned _ _ _,
      fun h hq => entrySteer_ramps (by exact h) (by exact hq) t⟩

/-! ## Identification in LINE LOCK (07 R139) -/

theorem pairStandard_none {n : Nat} (h : n ∉ [262, 263, 312, 313]) : pairStandard n = none := by
  simp only [List.mem_cons, List.not_mem_nil, or_false, not_or] at h
  obtain ⟨h262, h263, h312, h313⟩ := h
  simp [pairStandard, h262, h263, h312, h313]

theorem pairStandard_some {n : Nat} {std : Standard} (h : (n ∈ [312, 313] ∧ std = .s625) ∨ (n ∈ [262, 263] ∧ std = .s525)) :
    pairStandard n = some std := by
  simp only [List.mem_cons, List.not_mem_nil, or_false] at h
  rcases h with ⟨rfl | rfl, rfl⟩ | ⟨rfl | rfl, rfl⟩ <;> rfl

/-- A field sync that completes no pair begins one (07 R139). -/
theorem pairSync_begins (hline : s.rlc.lineOfEvent t = s.rlc)
    (h : s.rlc.pair = none ∨ ∃ n, s.rlc.pair = some n ∧ n ∉ [262, 263, 312, 313]) :
    pairSync pat t s = { s with rlc := { s.rlc with pair := some 0 } } := by
  have hbind : s.rlc.pair.bind pairStandard = none := by
    rcases h with hnone | ⟨n, hn, hno⟩
    · rw [hnone]; rfl
    · rw [hn]; exact pairStandard_none hno
  simp only [pairSync, hline, hbind]
  rfl

theorem pairSync_identifies {n : Nat} {std : Standard} (hline : s.rlc.lineOfEvent t = s.rlc) (hn : s.rlc.pair = some n)
    (hstd : pairStandard n = some std) : pairSync pat t s = judgePair std pat t s := by
  have hbind : s.rlc.pair.bind pairStandard = some std := by rw [hn]; exact hstd
  simp only [pairSync, hline, hbind]
  rfl

theorem judgePair_forbidden {std : Standard} (h : Forbids s.rlc.setting std) :
    judgePair std pat t s = { s with
      rlc := { s.rlc with pair := some 0, standard := some std, faults := withMismatch s.rlc.faults }
      att := mismatchRaised s.rlc.faults s.att } := by
  have hno : ¬ s.rlc.setting.allows std = true := fun ha => (StandardSetting.allows_iff _ _).mp ha h
  refine (if_neg hno).trans ?_
  rw [addFaults_mismatch]
  rfl

theorem judgePair_allowed {std : Standard} (h : ¬ Forbids s.rlc.setting std) :
    judgePair std pat t s = enterFrameLock { s with rlc := { s.rlc with standard := some std, pair := some 0 } } pat t :=
  if_pos ((StandardSetting.allows_iff _ _).mpr h)

/-! ## Confirmation in FLYWHEEL (07 R146) -/

theorem confirm_allowed {std : Standard} (h : ¬ Forbids s.rlc.setting std) :
    confirm std pat t s = enterFrameLock { s with rlc := s.rlc.retime t } pat t :=
  if_pos ((StandardSetting.allows_iff _ _).mpr h)

theorem confirm_forbidden {std : Standard} (h : Forbids s.rlc.setting std) :
    confirm std pat t s = { s with
      rlc := { s.rlc.retime t with
        lock := .lineLock, fields := 0, faults := withMismatch s.rlc.faults, missCount := 0, parityCount := 0
        waiting := false, pair := some 0, field := none }
      raster := inHold s.raster
      att := (mismatchRaised s.rlc.faults s.att).occur (.lockChange s.rlc.lock .lineLock) } := by
  have hno : ¬ s.rlc.setting.allows std = true := fun ha => (StandardSetting.allows_iff _ _).mp ha h
  refine (if_neg hno).trans ?_
  rw [addFaults_mismatch, changeLock_lineLock]
  rfl

end

/-! ## The checks of a FRAME LOCK field (07 R141, R142) -/

section
variable {std : Standard} {f : RefField} (last : Nat)

/-- The field sync of a field that has just ended by prediction (07 R141). -/
theorem takeFieldSync_met (hp : f.predicted = true) (h0 : f.count = 0) :
    takeFieldSync std last f = { field := { f with predicted := false }, length := last, faults := SyncFaults.none } :=
  if_pos ⟨hp, h0⟩

/-- A field sync within 7 lines of a prediction ends a long field (07 R141). -/
theorem takeFieldSync_long (hp : f.predicted = true) (h1 : 1 ≤ f.count) (h7 : f.count ≤ 7) :
    takeFieldSync std last f =
      { field := { id := f.id, count := 0, predicted := false }, length := expectedLines std f.id.other + f.count
        faults := { SyncFaults.none with longField := true } } :=
  (if_neg fun h => absurd h.2 (Nat.ne_of_gt h1)).trans (if_pos ⟨hp, h7⟩)

/-- Any other field sync ends a short field (07 R141). -/
theorem takeFieldSync_short (h : f.predicted = false ∨ 8 ≤ f.count) :
    takeFieldSync std last f =
      { field := { id := f.id.other, count := 0, predicted := false }, length := f.count
        faults := { SyncFaults.none with shortField := true } } := by
  have hnot : ∀ n, n ≤ 7 → ¬ (f.predicted = true ∧ f.count ≤ n) := by
    rintro n hn ⟨hp, hc⟩
    rcases h with hf | h8
    · exact Bool.false_ne_true (hf.symm.trans hp)
    · omega
  exact (if_neg fun h0 => hnot 0 (by omega) ⟨h0.1, Nat.le_of_eq h0.2⟩).trans (if_neg (hnot 7 (Nat.le_refl 7)))

end

/-- The attention unit after the kinds k are added to the sync-fault set f (07 R152). -/
def faultsRaised (f k : SyncFaults) (a : Attention) : Attention :=
  if (f.newIn k).isEmpty then a else a.occur (.syncFault (f.newIn k))

theorem addFaults_eq (s : State) (k : SyncFaults) :
    addFaults s k = { s with rlc := { s.rlc with faults := s.rlc.faults.union k }, att := faultsRaised s.rlc.faults k s.att } :=
  addFaults_frame s k

theorem faultsRaised_lockChange (f k : SyncFaults) (a : Attention) : (faultsRaised f k a).lockChange = a.lockChange := by
  unfold faultsRaised
  split <;> rfl

/-- A clear cause latches the occurrence (10 R188). -/
theorem CauseState.occur_latch {c : CauseState} (h : c.pending = false) (d : Detail) : (c.occur d).latch = some d := by
  rw [CauseState.occur_clear d h]

/-- The kinds that join the set are those that SYNC FAULT latches (07 R152; 10 R188). -/
theorem faultsRaised_latch {f k : SyncFaults} {a : Attention} (h : a.syncFault.pending = false) (hnew : (f.newIn k).isEmpty = false) :
    (faultsRaised f k a).syncFault.latch = some (.syncFault (f.newIn k)) := by
  rw [faultsRaised, hnew]
  exact CauseState.occur_latch h _

theorem union_parityFault (a b x z : Bool) (agree : Prop) [Decidable agree] :
    SyncFaults.union { mismatch := a, longField := b, shortField := x, parity := false, holdover := z } (parityFault (decide agree)) =
      { mismatch := a, longField := b, shortField := x, parity := decide (¬ agree), holdover := z } := by
  simp [SyncFaults.union, parityFault, SyncFaults.none]

section
variable {s : State} {std : Standard} {f g : RefField} {pat : Pattern} {t : Time} {len n : Nat} {m k : SyncFaults}

theorem frameSync_checks (hline : s.rlc.lineOfEvent t = s.rlc) (hstd : s.rlc.standard = some std) (hf : s.rlc.field = some f) :
    frameSync pat t s = checkField std f pat s := by
  simp only [frameSync, hline, State.withRlc_rlc, hstd, hf]
  rfl

variable (hrow : takeFieldSync std s.rlc.fieldLength f = { field := g, length := len, faults := m })
  (hk : k = m.union (parityFault (decide (patternId pat = g.id))))
  (hn : n = if patternId pat = g.id then 0 else s.rlc.parityCount + 1)
include hrow hk hn

/-- A field sync taken by its row of the table, with fewer than two disagreements in succession (07 R141, R142). -/
theorem checkField_kept (h2 : n < 2) :
    checkField std f pat s = { s with
      rlc := { s.rlc with field := some g, fieldLength := len, parityCount := n, faults := s.rlc.faults.union k }
      att := faultsRaised s.rlc.faults k s.att } := by
  have hcount : parityAfter s.rlc.parityCount (decide (patternId pat = g.id)) = n := by rw [hn]; simp [parityAfter]
  simp only [checkField, hrow, hcount, if_neg (Nat.not_le.mpr h2), ← hk, addFaults_eq]
  rfl

/-- The second disagreement in succession returns to LINE LOCK and begins a pair (07 R142). -/
theorem checkField_dropped (h2 : 2 ≤ n) :
    checkField std f pat s = { s with
      rlc := { s.rlc with field := none, fieldLength := len, parityCount := n, faults := s.rlc.faults.union k, pair := some 0
                          lock := .lineLock, fields := 0 }
      raster := inHold s.raster
      att := (faultsRaised s.rlc.faults k s.att).occur (.lockChange s.rlc.lock .lineLock) } := by
  have hcount : parityAfter s.rlc.parityCount (decide (patternId pat = g.id)) = n := by rw [hn]; simp [parityAfter]
  simp only [checkField, hrow, hcount, if_pos h2, ← hk, addFaults_eq, dropToLineLock_eq]
  rfl

end

/-- Settles O54: the field sync by the lock state, on the line that it belongs to. -/
theorem fieldSyncsIdentifyCheckAndConfirm : Obligations.FieldSyncsIdentifyCheckAndConfirm := by
  intro s x pat t id hranges hid
  have hpat : patternId pat = id := by rw [hid]; cases pat <;> rfl
  refine ⟨fun h => congrArg Host.Outcome.next (fieldSync_disregarded h), ?enters, ?lineLock, ?frameLock, ?flywheel⟩
  case enters =>
    rintro p rfl hl he hp hopen
    exact congrArg Host.Outcome.next (fieldSync_enterLine hl he hp hopen)
  case lineLock =>
    rintro rfl hl hcurrent
    have hline := RefLock.lineOfEvent_current hcurrent
    refine ⟨fun hno => congrArg Host.Outcome.next ((fieldSync_lineLock hl).trans (pairSync_begins hline hno)), fun n std hn hpair => ?_⟩
    have hjudged := (fieldSync_lineLock (pat := pat) hl).trans (pairSync_identifies hline hn (pairStandard_some hpair))
    refine ⟨fun hno => congrArg Host.Outcome.next (hjudged.trans (judgePair_forbidden hno)), fun hyes =>
      ⟨_, congrArg Host.Outcome.next (hjudged.trans (judgePair_allowed hyes)), ?_⟩⟩
    exact enterFrameLock_enters (c := { s.rlc with standard := some std, pair := some 0 }) hranges rfl rfl
  case frameLock =>
    rintro rfl hl hcurrent std f g len n k hstd hf hrow hn
    have htaken : ∃ m, takeFieldSync std s.rlc.fieldLength f = { field := g, length := len, faults := m } ∧
        k = m.union (parityFault (decide (id = g.id))) := by
      rcases hrow with ⟨hp, h0, rfl, rfl, rfl⟩ | ⟨hp, h1, h7, rfl, rfl, rfl⟩ | ⟨h, rfl, rfl, rfl⟩
      · exact ⟨_, takeFieldSync_met _ hp h0, (union_parityFault _ _ _ _ _).symm⟩
      · exact ⟨_, takeFieldSync_long _ hp h1 h7, (union_parityFault _ _ _ _ _).symm⟩
      · exact ⟨_, takeFieldSync_short _ h, (union_parityFault _ _ _ _ _).symm⟩
    obtain ⟨m, hfield, hk⟩ := htaken
    rw [← hpat] at hk hn
    have hchecked := (fieldSync_frameLock (pat := pat) hl).trans
      (frameSync_checks (RefLock.lineOfEvent_current hcurrent) hstd hf)
    rcases Nat.lt_or_ge n 2 with h2 | h2
    · refine ⟨_, congrArg Host.Outcome.next (hchecked.trans (checkField_kept hfield hk hn h2)), rfl, rfl, rfl, rfl, rfl, hstd,
        faultsRaised_latch, fun _ => ⟨hl, rfl, rfl, faultsRaised_lockChange _ _ _⟩, fun h => absurd h2 (Nat.not_lt.mpr h)⟩
    · refine ⟨_, congrArg Host.Outcome.next (hchecked.trans (checkField_dropped hfield hk hn h2)), rfl, rfl, rfl, rfl, rfl, hstd,
        faultsRaised_latch, fun h => absurd h (Nat.not_lt.mpr h2), fun _ => ⟨rfl, rfl, rfl, rfl, fun hclear => ?_⟩⟩
      rw [hl]
      exact CauseState.occur_latch ((congrArg CauseState.pending (faultsRaised_lockChange _ _ _)).trans hclear) _
  case flywheel =>
    rintro std k c rfl hl hw hstd rfl hc
    have hretimed : s.rlc.retime t = c := hc.symm
    have hconfirms := fieldSync_confirms (pat := pat) (t := t) hl hw hstd
    refine ⟨fun hyes => ⟨_, congrArg Host.Outcome.next (hconfirms.trans (confirm_allowed hyes)), ?_⟩, fun hno =>
      congrArg Host.Outcome.next ?_⟩
    · rw [hretimed]
      exact enterFrameLock_enters hranges (by rw [hc]; exact hstd) (by rw [hc])
    · rw [hconfirms, confirm_forbidden hno, hretimed, hl]

end Sys2Proof.Machine
end

section
/-! PROOFS. Every step keeps the timing: the raster on a line of its frame, the offset within the pull limit, HOLD exactly outside FRAME
LOCK, and what each lock state knows (07 R138 to R147; 08 R156, R159, R160, R169). -/

namespace Sys2Proof.Machine

/-! ## The laws of the raster (08 R156, R159, R169) -/

/-- What the timing invariant says of the raster alone. -/
structure RasterLaws (r : Raster) : Prop where
  ranges : RasterRanges r
  high : r.resetLow = false
  offset : r.offset.natAbs ≤ r.params.pullLimit

section
variable {r : Raster}

theorem RasterLaws.params (h : RasterLaws r) : r.params.InRange := h.ranges.1

theorem RasterLaws.line (h : RasterLaws r) : r.line < frameLines r.std := h.ranges.2.2.2

/-- The width that a line start takes from the parameters is one of 08 R169. -/
theorem RasterParams.InRange.width {q : RasterParams} (h : q.InRange) : 512 ≤ q.activeWidth ∧ q.activeWidth ≤ 960 := by
  obtain ⟨-, -, -, -, hlo, hhi, -⟩ := h
  exact ⟨hlo, hhi⟩

/-- The laws speak of neither the slew state nor its counts (08 R160, R161). -/
theorem RasterLaws.enterSlewState (h : RasterLaws r) (w : Slew) : RasterLaws (r.enterSlewState w) :=
  ⟨h.ranges, h.high, h.offset⟩

theorem RasterLaws.inHold (h : RasterLaws r) : RasterLaws (inHold r) := h.enterSlewState .hold

/-- Any line of the frame can follow the line in progress. -/
theorem RasterLaws.toLine (h : RasterLaws r) {line : Nat} (hl : line < frameLines r.std) : RasterLaws (r.toLine line) := by
  obtain ⟨hparams, hlo, hhi, -⟩ := h.ranges
  unfold Raster.toLine
  split <;> exact ⟨⟨hparams, hlo, hhi, hl⟩, h.high, h.offset⟩

theorem RasterLaws.takePhase (h : RasterLaws r) (g : Nat) (e : Int) (t : Time) : RasterLaws (r.takePhase g e t) := by
  have ho := Raster.takePhase_offset g e t h.offset
  rw [Raster.takePhase_frame] at ho ⊢
  exact ⟨h.ranges, h.high, ho⟩

theorem RasterLaws.countSegment (h : RasterLaws r) (lock : LockState) : RasterLaws (r.countSegment lock) := by
  rw [Raster.countSegment_frame]
  exact ⟨h.ranges, h.high, h.offset⟩

theorem RasterLaws.countTimer (h : RasterLaws r) : RasterLaws r.countTimer := by
  rw [Raster.countTimer_frame]
  exact ⟨h.ranges, h.high, h.offset⟩

/-- A segment end moves the offset within the pull limit (08 R159, R163). -/
theorem RasterLaws.rampSegment (h : RasterLaws r) : RasterLaws r.rampSegment := by
  unfold Raster.rampSegment
  split
  · exact ⟨h.ranges, h.high, segmentOutcome_offset h.offset⟩
  all_goals exact h

/-- A decay segment moves the offset toward 0 (08 R160). -/
theorem RasterLaws.decaySegment (h : RasterLaws r) (lock : LockState) : RasterLaws (r.decaySegment lock) := by
  unfold Raster.decaySegment
  split
  · split
    · exact ⟨h.ranges, h.high, (stepToZero_natAbs _ _).trans h.offset⟩
    · exact h
  all_goals exact h

theorem RasterLaws.settleSegment (h : RasterLaws r) (lock : LockState) : RasterLaws (r.settleSegment lock) := by
  have hz := h.rampSegment.decaySegment lock
  unfold Raster.settleSegment
  split
  · exact ⟨hz.ranges, hz.high, hz.offset⟩
  · exact h

/-- New parameters in range bring the offset within their pull limit (08 R169, R170). -/
theorem RasterLaws.setParams (h : RasterLaws r) {q : RasterParams} (hq : q.InRange) (t : Time) : RasterLaws (r.setParams q t) := by
  obtain ⟨-, hlo, hhi, hl⟩ := h.ranges
  exact ⟨⟨hq, hlo, hhi, hl⟩, h.high, clampOffset_natAbs _ _⟩

/-- A placed raster stands on a line of its frame, wherever it stood in a frame of either standard before (08 R166 item 6). -/
theorem RasterLaws.placedAt (h : RasterLaws r) (std : Standard) (w : Slew) (pulses : Nat) (n rem : Int) (t : Time) :
    RasterLaws (placedAt { r with
      std := std, slew := w, segLines := 0, segDue := false, timer := 0, timeoutDue := false, resetLow := false
      pulses := pulses } n rem t) := by
  obtain ⟨hparams, hlo, hhi, -⟩ := h.ranges
  have hstart : RasterRanges { r with std := std, line := 0 } := ⟨hparams, hlo, hhi, frameLines_pos std⟩
  exact ⟨⟨hparams, hlo, hhi, Raster.place_line hstart n rem t⟩, rfl, h.offset⟩

theorem Raster.nextFieldLine_lt (r : Raster) : r.nextFieldLine < frameLines r.std := by
  unfold Raster.nextFieldLine
  cases r.std <;> cases lineIdentity _ r.line <;> decide

/-! ### Which operations keep HOLD (08 R160) -/

theorem Raster.countSegment_slew (r : Raster) (lock : LockState) : (r.countSegment lock).slew = r.slew := by
  rw [Raster.countSegment_frame]

theorem Raster.toLine_slew (r : Raster) (line : Nat) : (r.toLine line).slew = r.slew := by
  unfold Raster.toLine
  split <;> rfl

theorem Raster.rampSegment_hold_iff (r : Raster) : r.rampSegment.slew = .hold ↔ r.slew = .hold := by
  unfold Raster.rampSegment
  split <;> rename_i hw <;> simp [hw]

theorem Raster.decaySegment_slew (r : Raster) (lock : LockState) : (r.decaySegment lock).slew = r.slew := by
  unfold Raster.decaySegment
  split
  · split <;> rfl
  all_goals rfl

theorem Raster.settleSegment_hold_iff (r : Raster) (lock : LockState) : (r.settleSegment lock).slew = .hold ↔ r.slew = .hold := by
  unfold Raster.settleSegment
  split
  · rw [← r.rampSegment_hold_iff, ← r.rampSegment.decaySegment_slew lock]
  · rfl

theorem Raster.setParams_hold_iff (r : Raster) (q : RasterParams) (t : Time) : (r.setParams q t).slew = .hold ↔ r.slew = .hold := by
  unfold Raster.setParams
  cases hw : r.slew with
  | hold => simp
  | track => simp
  | slew w => dsimp only; split <;> simp

end

/-! ## What the lock states know (07 R138 to R147) -/

section
variable {c : RefLock}

/-- FRAME LOCK and FLYWHEEL have a field in progress, SEARCH and LINE LOCK none (07 R138, R140, R144, R147). -/
theorem LockKnowledge.locked (h : LockKnowledge c) (hl : c.lock = .frameLock ∨ c.lock = .flywheel) :
    c.prediction.isSome = true ∧ FieldInProgress c := by
  unfold LockKnowledge at h
  rcases hl with hl | hl <;> simpa only [hl] using h

theorem LockKnowledge.lineLocked (h : LockKnowledge c) (hl : c.lock = .lineLock) : c.prediction.isSome = true ∧ c.field = none := by
  simpa only [LockKnowledge, hl] using h

theorem LockKnowledge.searching (h : LockKnowledge c) (hl : c.lock = .search) : c.prediction = none ∧ c.field = none := by
  simpa only [LockKnowledge, hl] using h

/-- Outside SEARCH the next line is predicted (07 R138, R144). -/
theorem LockKnowledge.predicted (h : LockKnowledge c) (hl : c.lock ≠ .search) : c.prediction.isSome = true := by
  cases hlock : c.lock with
  | search => exact absurd hlock hl
  | lineLock => exact (h.lineLocked hlock).1
  | frameLock => exact (h.locked (.inl hlock)).1
  | flywheel => exact (h.locked (.inr hlock)).1

/-- The knowledge is of the lock state, the prediction, the standard and the field alone. -/
theorem LockKnowledge.congr (h : LockKnowledge c) {d : RefLock} (hl : d.lock = c.lock) (hp : d.prediction = c.prediction)
    (hs : d.standard = c.standard) (hf : d.field = c.field) : LockKnowledge d := by
  unfold LockKnowledge FieldInProgress at *
  rwa [hl, hp, hs, hf]

/-- With a lock state that has a prediction, any prediction will do. -/
theorem LockKnowledge.repredicted (h : LockKnowledge c) (hl : c.lock ≠ .search) {p : Option Time} (hp : p.isSome = true) :
    LockKnowledge { c with prediction := p } := by
  cases hlock : c.lock with
  | search => exact absurd hlock hl
  | lineLock => simpa only [LockKnowledge, hlock] using ⟨hp, (h.lineLocked hlock).2⟩
  | frameLock => simpa only [LockKnowledge, hlock] using ⟨hp, (h.locked (.inl hlock)).2⟩
  | flywheel => simpa only [LockKnowledge, hlock] using ⟨hp, (h.locked (.inr hlock)).2⟩

/-- A line without a field in progress enters none. -/
theorem RefLock.enterLine_noField (h : c.field = none) : c.enterLine.field = none := by
  simp [RefLock.enterLine, RefLock.fieldAfterLine, h]

/-- Entering a line takes the field one line on, and nothing else that a lock state knows (07 R141). -/
theorem LockKnowledge.enterLine (h : LockKnowledge c) : LockKnowledge c.enterLine := by
  have hlock : c.enterLine.lock = c.lock := rfl
  cases hl : c.lock with
  | search => simpa only [LockKnowledge, hlock, hl] using ⟨(h.searching hl).1, RefLock.enterLine_noField (h.searching hl).2⟩
  | lineLock => simpa only [LockKnowledge, hlock, hl] using ⟨(h.lineLocked hl).1, RefLock.enterLine_noField (h.lineLocked hl).2⟩
  | frameLock => simpa only [LockKnowledge, hlock, hl] using ⟨(h.locked (.inl hl)).1, (h.locked (.inl hl)).2.enterLine⟩
  | flywheel => simpa only [LockKnowledge, hlock, hl] using ⟨(h.locked (.inr hl)).1, (h.locked (.inr hl)).2.enterLine⟩

theorem LockKnowledge.ensureEntered (h : LockKnowledge c) : LockKnowledge c.ensureEntered := by
  unfold RefLock.ensureEntered
  split
  · exact h
  · exact h.enterLine

theorem LockKnowledge.lineOfEvent (h : LockKnowledge c) (t : Time) : LockKnowledge (c.lineOfEvent t) := by
  unfold RefLock.lineOfEvent
  split
  · exact h.ensureEntered
  · exact h

theorem RefLock.ensureEntered_lock (c : RefLock) : c.ensureEntered.lock = c.lock := by rw [RefLock.ensureEntered_frame]

theorem RefLock.lineOfEvent_lock (c : RefLock) (t : Time) : (c.lineOfEvent t).lock = c.lock := by
  unfold RefLock.lineOfEvent
  split
  · exact c.ensureEntered_lock
  · rfl

/-- A decided line leaves a prediction (07 R138). -/
theorem LockKnowledge.decideLine (h : LockKnowledge c) (hl : c.lock ≠ .search) : LockKnowledge c.decideLine := by
  have hp := c.decideLine_prediction
  rw [RefLock.decideLine_frame] at hp ⊢
  exact (h.repredicted hl hp).congr rfl rfl rfl rfl

/-- A nominal period that changes in FRAME LOCK leaves a prediction (08 R170). -/
theorem LockKnowledge.repredict (h : LockKnowledge c) (q q' : RasterParams) : LockKnowledge (c.repredict q q') := by
  by_cases hl : c.lock = .search
  · simpa only [RefLock.repredict, hl] using h
  · have hp := RefLock.repredict_isSome (h.predicted hl) q q'
    rw [RefLock.repredict_frame] at hp ⊢
    exact (h.repredicted hl hp).congr rfl rfl rfl rfl

/-- SEARCH knows that it has neither a prediction nor a field (07 R147). -/
theorem LockKnowledge.noPrediction {d : RefLock} (hl : d.lock = .search) (hp : d.prediction = none) (hf : d.field = none) :
    LockKnowledge d := by
  simpa only [LockKnowledge, hl] using ⟨hp, hf⟩

theorem lockKnowledge_inSearch (c : RefLock) : LockKnowledge (inSearch c) := .noPrediction rfl rfl rfl

/-- A share that ends the holdover leaves SEARCH (07 R145, R153). -/
theorem lockKnowledge_expired (c : RefLock) (r : Raster) :
    LockKnowledge (({ inSearch c with faults := { c.faults with holdover := true } } : RefLock).finishShare r) :=
  .noPrediction rfl rfl rfl

/-- LINE LOCK knows its prediction alone (07 R138, R146). -/
theorem LockKnowledge.toLineLock {d : RefLock} (hl : d.lock = .lineLock) (hp : d.prediction.isSome = true) (hf : d.field = none) :
    LockKnowledge d := by
  simpa only [LockKnowledge, hl] using ⟨hp, hf⟩

/-- FLYWHEEL keeps the standard and the field of FRAME LOCK and predicts on (07 R144). -/
theorem LockKnowledge.toFlywheel (h : LockKnowledge c) (hl : c.lock = .frameLock) :
    LockKnowledge { c.toFlywheel with lock := .flywheel, fields := 0 } := by
  obtain ⟨std, f, hstd, hf, hcount⟩ := (h.locked (.inl hl)).2
  rw [RefLock.toFlywheel_frame]
  exact ⟨rfl, std, f, hstd, hf, hcount⟩

/-- FRAME LOCK is entered at the first line of a field of the known standard (07 R140). -/
theorem LockKnowledge.toFrameLock (hp : c.prediction.isSome = true) {std : Standard} (hstd : c.standard = some std) (pat : Pattern) :
    LockKnowledge { c.toFrameLock pat with lock := .frameLock, fields := 0 } :=
  ⟨hp, std, _, hstd, rfl, expectedLines_pos std _⟩

/-- The controller's share of a boundary touches nothing that a lock state knows (07 R153). -/
theorem LockKnowledge.finishShare (h : LockKnowledge c) (r : Raster) : LockKnowledge (c.finishShare r) := h.congr rfl rfl rfl rfl

theorem LockKnowledge.countHoldover (h : LockKnowledge c) : LockKnowledge c.countHoldover := by
  unfold RefLock.countHoldover
  split
  · exact h.congr rfl rfl rfl rfl
  · exact h

theorem LockKnowledge.afterShare (h : LockKnowledge c) (w : Slew) (o : Int) : LockKnowledge (afterShare c w o) := by
  unfold Sys2Proof.Machine.afterShare
  split <;> exact h.congr rfl rfl rfl rfl

theorem afterShare_lock (c : RefLock) (w : Slew) (o : Int) : (afterShare c w o).lock = c.lock := by
  unfold afterShare
  split <;> rfl

theorem RefLock.countHoldover_lock (c : RefLock) : c.countHoldover.lock = c.lock := by
  unfold RefLock.countHoldover
  split <;> rfl

end

/-! ## The laws of both blocks -/

/-- The two blocks that keep time. -/
structure Timing where
  raster : Raster
  rlc : RefLock

def State.timing (s : State) : Timing := { raster := s.raster, rlc := s.rlc }

/-- Both blocks under their laws, and the slew state HOLD exactly outside FRAME LOCK. -/
structure Timing.Lawful (τ : Timing) : Prop where
  raster : RasterLaws τ.raster
  hold : τ.raster.slew = .hold ↔ τ.rlc.lock ≠ .frameLock
  lock : LockKnowledge τ.rlc

theorem timingInvariant_iff (s : State) : TimingInvariant s ↔ s.timing.Lawful :=
  ⟨fun ⟨hr, hh, ho, hs, hk⟩ => ⟨⟨hr, hh, ho⟩, hs, hk⟩, fun ⟨⟨hr, hh, ho⟩, hs, hk⟩ => ⟨hr, hh, ho, hs, hk⟩⟩

/-! ## Operations that leave both blocks -/

@[simp] theorem withPort_timing (s : State) (v : Port) : (s.withPort v).timing = s.timing := rfl
@[simp] theorem withKeyer_timing (s : State) (v : Keyer) : (s.withKeyer v).timing = s.timing := rfl
@[simp] theorem withSeq_timing (s : State) (v : Sequencer) : (s.withSeq v).timing = s.timing := rfl
@[simp] theorem withScenes_timing (s : State) (v : Scenes) : (s.withScenes v).timing = s.timing := rfl
@[simp] theorem withClock_timing (s : State) (v : FieldClock) : (s.withClock v).timing = s.timing := rfl
@[simp] theorem withPending_timing (s : State) (v : List Instr) : (s.withPending v).timing = s.timing := rfl
@[simp] theorem reply_timing (s : State) (c : Byte) (b : List Byte) : (reply s c b).timing = s.timing := rfl
@[simp] theorem replyOkTo_timing (s : State) : (replyOkTo s).timing = s.timing := rfl
@[simp] theorem hand_timing (s : State) (es : List CountEvent) : (hand s es).timing = s.timing := rfl
@[simp] theorem takeCountDone_timing (s : State) : (takeCountDone s).timing = s.timing := rfl
@[simp] theorem takeHalt_timing (s : State) : (takeHalt s).timing = s.timing := rfl

@[simp] theorem trigger_timing (s : State) : (trigger s).timing = s.timing := by simp [State.timing]
@[simp] theorem settleMark_timing (s : State) : (settleMark s).timing = s.timing := by rw [settleMark_frame]; rfl

@[simp] theorem executeCue_timing (s : State) : (executeCue s).timing = s.timing := by
  obtain ⟨q, he, -⟩ := executeCue_frame s
  rw [he]; rfl

@[simp] theorem resumeRun_timing (s : State) : (resumeRun s).timing = s.timing := executeCue_timing _

@[simp] theorem takeInterval_timing (s : State) : (takeInterval s).timing = s.timing := by
  unfold takeInterval
  dsimp only
  split <;> simp

@[simp] theorem cueInEdge_timing (s : State) : (cueInEdge s).timing = s.timing := by
  unfold cueInEdge
  dsimp only
  split <;> simp

@[simp] theorem writeMark_timing (m : Mark) (n : Nat) (s : State) : (writeMark m n s).timing = s.timing := by
  unfold writeMark
  split <;> rfl

@[simp] theorem writeRequestByte_timing (b : Byte) (s : State) : (writeRequestByte b s).timing = s.timing := by
  unfold writeRequestByte
  split
  · rfl
  · split <;> rfl

@[simp] theorem readReplyByte_timing (s : State) : (readReplyByte s).timing = s.timing := by
  unfold readReplyByte
  split <;> rfl

/-- A reset through the port leaves the raster and the lock (09 R183, R184). -/
@[simp] theorem portControl_timing (ctl : Byte) (s : State) : (portControl ctl s).timing = s.timing := by
  unfold portControl
  split
  · rfl
  · split <;> rfl

@[simp] theorem clearCauses_timing (l : BitVec 2) (b : Byte) (s : State) : (clearCauses l b s).timing = s.timing := by
  unfold clearCauses
  split
  · rfl
  · split <;> rfl

@[simp] theorem refuseUnknown_timing (s : State) : (refuseUnknown s).timing = s.timing := by
  unfold refuseUnknown
  split
  · rfl
  · split <;> rfl

@[simp] theorem refuseUnframeable_timing (s : State) : (refuseUnframeable s).timing = s.timing := by
  unfold refuseUnframeable
  split <;> rfl

@[simp] theorem writeReport_timing (s : State) : (writeReport s).timing = s.timing := by
  unfold writeReport
  split
  · split <;> rfl
  all_goals rfl

@[simp] theorem stepList_timing (s : State) : (stepList s).timing = s.timing := by
  unfold stepList examineSlot
  split
  · split
    · split
      · rfl
      · split
        · rfl
        · split <;> rfl
    · rfl
  all_goals rfl

@[simp] theorem resumeList_timing (s : State) : (resumeList s).timing = s.timing := by
  unfold resumeList
  split
  · split <;> rfl
  all_goals rfl

@[simp] theorem endList_timing (s : State) : (endList s).timing = s.timing := by
  unfold endList
  split
  · split <;> rfl
  all_goals rfl

@[simp] theorem answerQuery_timing (t : Byte) (s : State) : (answerQuery t s).timing = s.timing := by
  unfold answerQuery
  dsimp only
  split <;> rfl

@[simp] theorem answerProbe_timing (r c : Nat) (s : State) : (answerProbe r c s).timing = s.timing := by
  unfold answerProbe
  dsimp only
  split <;> rfl

@[simp] theorem postRequest_timing (op : AmendOp) (s : State) : (postRequest op s).timing = s.timing := by
  unfold postRequest
  split <;> rfl

@[simp] theorem executeEntry_timing (e : CueEntry) (s : State) : (executeEntry e s).timing = s.timing := by
  unfold executeEntry
  split
  · rfl
  · split <;> rfl

/-- An operand check leaves what its request leaves. -/
theorem withOperands_timing {ok : Bool} {k : State → State} {s : State} (h : (k s).timing = s.timing) :
    (withOperands ok k s).timing = s.timing := by
  cases ok
  · rfl
  · exact h

theorem whenHalted_timing {k : State → State} {s : State} (h : (k s).timing = s.timing) :
    (whenHalted k s).timing = s.timing := by
  unfold whenHalted
  split
  · exact h
  · rfl

/-! ## Operations that keep the laws -/

section
variable {s : State}

theorem lawful_of_timing {t : State} (h : s.timing.Lawful) (e : t.timing = s.timing) : t.timing.Lawful := e ▸ h

theorem withRequest_keepsTiming (r : ReqInfo) {k : List Byte → State → State}
    (hk : ∀ ops t, t.timing.Lawful → (k ops t).timing.Lawful) (h : s.timing.Lawful) : (withRequest r k s).timing.Lawful := by
  unfold withRequest
  split
  · exact h
  · split
    · split
      · exact hk _ _ h
      · exact h
    · exact h

/-- A request that leaves both blocks keeps their laws. -/
theorem withRequest_leavesTiming (r : ReqInfo) {k : List Byte → State → State} (hk : ∀ ops t, (k ops t).timing = t.timing)
    (h : s.timing.Lawful) : (withRequest r k s).timing.Lawful :=
  withRequest_keepsTiming r (fun ops t ht => lawful_of_timing ht (hk ops t)) h

theorem withOperands_keepsTiming {ok : Bool} {k : State → State} (h : s.timing.Lawful) (hk : ok = true → (k s).timing.Lawful) :
    (withOperands ok k s).timing.Lawful := by
  cases ok
  · exact h
  · exact hk rfl

/-- A new raster whose slew state is HOLD exactly when the old one's is. -/
theorem Timing.Lawful.withRaster (h : s.timing.Lawful) {r : Raster} (hr : RasterLaws r) (hw : r.slew = .hold ↔ s.raster.slew = .hold) :
    (s.withRaster r).timing.Lawful := ⟨hr, hw.trans h.hold, h.lock⟩

/-- A controller that stays in its lock state. -/
theorem Timing.Lawful.withRlc (h : s.timing.Lawful) {c : RefLock} (hl : c.lock = s.rlc.lock) (hc : LockKnowledge c) :
    (s.withRlc c).timing.Lawful :=
  ⟨h.raster, h.hold.trans (by rw [show (s.withRlc c).timing.rlc.lock = s.timing.rlc.lock from hl]), hc⟩

/-! ### Changes of lock state (07 R151; 08 R160) -/

/-- A lock state other than FRAME LOCK, entered in HOLD with what it knows. -/
theorem lawful_inHold {t : State} (hr : RasterLaws s.raster) (ht : t.raster = inHold s.raster) (hl : t.rlc.lock ≠ .frameLock)
    (hk : LockKnowledge t.rlc) : t.timing.Lawful := by
  refine ⟨?_, ?_, hk⟩
  · exact (show RasterLaws t.raster from ht ▸ hr.inHold)
  · exact ⟨fun _ => hl, fun _ => (congrArg Raster.slew ht : t.raster.slew = .hold)⟩

theorem enterSearch_keepsTiming (h : s.timing.Lawful) : (enterSearch s).timing.Lawful := by
  rw [enterSearch_eq]
  exact lawful_inHold h.raster rfl (fun hl => nomatch hl) (lockKnowledge_inSearch s.rlc)

theorem enterFlywheel_keepsTiming (h : s.timing.Lawful) (hl : s.rlc.lock = .frameLock) : (enterFlywheel s).timing.Lawful := by
  rw [enterFlywheel_eq]
  exact lawful_inHold h.raster rfl (fun hl => nomatch hl) (LockKnowledge.toFlywheel h.lock hl)

theorem changeLock_lineLock_settlesTiming (hr : RasterLaws s.raster) (hp : s.rlc.prediction.isSome = true) (hf : s.rlc.field = none) :
    (changeLock s .lineLock).timing.Lawful := by
  rw [changeLock_lineLock]
  exact lawful_inHold hr rfl (fun hl => nomatch hl) (.toLineLock rfl hp hf)

theorem addFaults_keepsTiming (k : SyncFaults) (h : s.timing.Lawful) : (addFaults s k).timing.Lawful := by
  rw [addFaults_frame]
  exact h.withRlc rfl (h.lock.congr rfl rfl rfl rfl)

theorem dropToLineLock_keepsTiming (pair : Option Nat) (h : s.timing.Lawful) (hl : s.rlc.lock = .frameLock) :
    (dropToLineLock s pair).timing.Lawful :=
  changeLock_lineLock_settlesTiming h.raster (h.lock.locked (.inl hl)).1 rfl

/-! ### The controller's share of a boundary (07 R153) -/

theorem takeShare_keepsTiming (h : s.timing.Lawful) : (takeShare s).timing.Lawful := by
  by_cases he : s.rlc.expires = true
  · rw [takeShare_expires he]
    exact lawful_inHold h.raster rfl (fun hl => nomatch hl) (lockKnowledge_expired s.rlc _)
  · rw [takeShare, if_neg he]
    exact h.withRlc s.rlc.countHoldover_lock ((LockKnowledge.countHoldover h.lock).finishShare _)

theorem settleShare_keepsTiming (h : s.timing.Lawful) : (settleShare s).timing.Lawful := by
  unfold settleShare
  split
  · exact takeShare_keepsTiming h
  · exact h

/-- A share settled leaves the controller with what its lock state knows, FRAME LOCK neither entered nor left (07 R145, R153). -/
theorem settleShare_lock (hk : LockKnowledge s.rlc) :
    LockKnowledge (settleShare s).rlc ∧ ((settleShare s).rlc.lock = .frameLock ↔ s.rlc.lock = .frameLock) := by
  unfold settleShare
  split
  · by_cases he : s.rlc.expires = true
    · have hl : s.rlc.lock = .flywheel := ((RefLock.expires_iff _).mp he).1
      rw [takeShare_expires he, hl]
      exact ⟨lockKnowledge_expired s.rlc _, fun h => (nomatch h), fun h => (nomatch h)⟩
    · rw [takeShare, if_neg he]
      exact ⟨(LockKnowledge.countHoldover hk).finishShare _,
        Eq.congr_left (show (s.rlc.countHoldover.finishShare s.raster).lock = s.rlc.lock from s.rlc.countHoldover_lock)⟩
  · exact ⟨hk, Iff.rfl⟩

/-! ### Boundaries and hard aligns (08 R158, R166) -/

theorem takeBoundary_keepsTiming (h : s.timing.Lawful) : (takeBoundary s).timing.Lawful := by
  have ht := settleShare_keepsTiming h
  have hrlc : (takeBoundary s).rlc = _ := congrArg State.rlc (takeBoundary_eq s)
  rw [State.timing, takeBoundary_raster, hrlc]
  refine ⟨ht.raster.countTimer, ?_, LockKnowledge.afterShare ht.lock _ _⟩
  dsimp only
  rw [Raster.countTimer_slew, afterShare_lock]
  exact ht.hold

theorem endField_keepsTiming (h : s.timing.Lawful) : (endField s).timing.Lawful :=
  have hb := takeBoundary_keepsTiming h
  hb.withRaster (hb.raster.toLine (Raster.nextFieldLine_lt _)) (by rw [Raster.toLine_slew])

/-- A hard align settles the slew state itself: it asks nothing of the one before (08 R166 item 3). -/
theorem Aligned.lawfulTiming {u : State} {cause : AlignCause} {std : Standard} {t : Time} (ha : Aligned s u cause std t)
    (hr : RasterLaws s.raster) (hk : LockKnowledge s.rlc) : u.timing.Lawful := by
  obtain ⟨n, rem, r, att, -, rfl, hb, hraster, -⟩ := ha
  obtain ⟨-, -, -, -, -, -, hrlc⟩ := hb _ _ _ rfl rfl rfl
  obtain ⟨hknown, hlock⟩ := settleShare_lock (s := { s with
    raster := { s.raster with
      std := std, slew := if s.rlc.lock = .frameLock then .track else .hold, segLines := 0, segDue := false, timer := 0
      timeoutDue := false, resetLow := false, pulses := s.raster.pulses + 1 }
    keyer := { s.keyer with row := none, spans := [] } }) hk
  rw [State.timing, hraster, hrlc]
  refine ⟨hr.placedAt std _ _ n rem t, ?_, LockKnowledge.afterShare hknown _ _⟩
  dsimp only
  rw [afterShare_lock, Ne, hlock]
  by_cases hl : s.rlc.lock = .frameLock <;> simp [placedAt, hl]

theorem hardAlign_settlesTiming (cause : AlignCause) (t : Time) (hr : RasterLaws s.raster) (hk : LockKnowledge s.rlc) :
    (hardAlign s cause t).timing.Lawful :=
  (hardAlign_aligned s cause t).lawfulTiming hr hk

/-! ### Entry to FRAME LOCK (07 R140; 08 R161) -/

/-- The entry decision leaves HOLD for TRACK or SLEW, by an align or not (08 R161). -/
theorem entrySteer_settlesTiming (e : Int) (t : Time) (hr : RasterLaws s.raster) (hl : s.rlc.lock = .frameLock) (hk : LockKnowledge s.rlc) :
    (entrySteer s e t).timing.Lawful := by
  have hsteered : ∀ w, w ≠ .hold → (s.withRaster (s.raster.enterSlewState w)).timing.Lawful := fun w hw =>
    ⟨hr.enterSlewState w, ⟨fun h => absurd h hw, fun h => absurd hl h⟩, hk⟩
  unfold entrySteer
  split
  · exact hsteered _ (fun h => nomatch h)
  · split
    · exact hardAlign_settlesTiming _ t hr hk
    · exact hsteered _ (fun h => nomatch h)

theorem entryDecision_settlesTiming (t : Time) (hr : RasterLaws s.raster) (hl : s.rlc.lock = .frameLock) (hk : LockKnowledge s.rlc) :
    (entryDecision s t).timing.Lawful := by
  obtain ⟨std, f, hstd, hf, -⟩ := (hk.locked (.inl hl)).2
  by_cases he : std = s.raster.std
  · rw [entryDecision_equal hstd hf he]
    exact entrySteer_settlesTiming _ t (by exact hr) (by exact hl) (hk.congr rfl rfl rfl rfl)
  · rw [entryDecision_differ hstd hf he]
    exact hardAlign_settlesTiming _ t hr hk

theorem enterFrameLock_keepsTiming (pat : Pattern) (t : Time) (hr : RasterLaws s.raster) (hp : s.rlc.prediction.isSome = true)
    {std : Standard} (hstd : s.rlc.standard = some std) : (enterFrameLock s pat t).timing.Lawful := by
  rw [enterFrameLock, changeLock_frame]
  exact entryDecision_settlesTiming t (by exact hr) rfl (LockKnowledge.toFrameLock hp hstd pat)

/-! ### Line syncs, windows and predicted lines (07 R137, R138, R144, R146) -/

theorem measurePhase_keepsTiming (z : OutPos) (t : Time) (h : s.timing.Lawful) : (measurePhase s z t).timing.Lawful := by
  unfold measurePhase
  split
  · split
    · exact ⟨h.raster.takePhase _ _ _, (Raster.takePhase_hold_iff _ _ _ _).trans h.hold, h.lock.congr rfl rfl rfl rfl⟩
    · exact h
  · exact h

theorem searchSync_keepsTiming (t : Time) (h : s.timing.Lawful) (hl : s.rlc.lock = .search) : (searchSync t s).timing.Lawful := by
  unfold searchSync
  split
  · exact h.withRlc rfl (h.lock.congr rfl rfl rfl rfl)
  · dsimp only
    split
    · split
      · exact changeLock_lineLock_settlesTiming (by exact h.raster) rfl (h.lock.searching hl).2
      · exact h.withRlc rfl (h.lock.congr rfl rfl rfl rfl)
    · exact h.withRlc rfl (h.lock.congr rfl rfl rfl rfl)

theorem flywheelSync_keepsTiming (t : Time) (h : s.timing.Lawful) : (flywheelSync t s).timing.Lawful := by
  unfold flywheelSync
  split
  · exact h.withRlc rfl (h.lock.congr rfl rfl rfl rfl)
  · split <;> exact h.withRlc rfl (h.lock.congr rfl rfl rfl rfl)

theorem windowedSync_keepsTiming (t : Time) (h : s.timing.Lawful) : (windowedSync t s).timing.Lawful := by
  by_cases hfirst : s.rlc.firstInWindow t = true
  · have hsynced : (s.withRlc (s.rlc.ensureEntered.lineSynced t (s.raster.outAt t))).timing.Lawful :=
      h.withRlc s.rlc.ensureEntered_lock ((LockKnowledge.ensureEntered h.lock).congr rfl rfl rfl rfl)
    rw [windowedSync_first hfirst]
    split
    · exact measurePhase_keepsTiming _ t hsynced
    · exact hsynced
  · rw [windowedSync_remembered hfirst]
    exact h.withRlc rfl (h.lock.congr rfl rfl rfl rfl)

theorem lineSync_keepsTiming (input : Input) (t : Time) (h : s.timing.Lawful) : (lineSync input t s).timing.Lawful := by
  unfold lineSync
  split
  · split
    · exact searchSync_keepsTiming t h ‹_›
    · exact windowedSync_keepsTiming t h
    · exact windowedSync_keepsTiming t h
    · exact flywheelSync_keepsTiming t h
  · exact h

theorem loseLines_keepsTiming (h : s.timing.Lawful) : (loseLines s).timing.Lawful := by
  unfold loseLines
  split
  · exact enterSearch_keepsTiming h
  · exact enterFlywheel_keepsTiming h ‹_›
  all_goals exact h

theorem closeWindow_keepsTiming (h : s.timing.Lawful) (hl : s.rlc.lock ≠ .search) : (closeWindow s).timing.Lawful := by
  have hlock := s.rlc.ensureEntered_lock
  have hdecided : (s.withRlc s.rlc.ensureEntered.decideLine).timing.Lawful :=
    h.withRlc (by rw [RefLock.decideLine_frame]; exact hlock)
      ((LockKnowledge.ensureEntered h.lock).decideLine (fun he => hl (hlock.symm.trans he)))
  unfold closeWindow
  dsimp only
  split
  · exact loseLines_keepsTiming hdecided
  · exact hdecided

theorem RefLock.hasWindow_lock {c : RefLock} (h : c.hasWindow = true) : c.lock ≠ .search := by
  rintro hl
  simp [RefLock.hasWindow, hl] at h

theorem passFlywheelLine_keepsTiming (h : s.timing.Lawful) : (passFlywheelLine s).timing.Lawful := by
  unfold passFlywheelLine
  split
  · rename_i hl _
    exact h.withRlc rfl (((LockKnowledge.enterLine h.lock).repredicted
      (by rw [show s.timing.rlc.enterLine.lock = _ from hl]; exact fun h => nomatch h) rfl).congr rfl rfl rfl rfl)
  · exact h

/-! ### Field syncs (07 R139 to R146) -/

theorem judgePair_keepsTiming (std : Standard) (pat : Pattern) (t : Time) (h : s.timing.Lawful) (hl : s.rlc.lock = .lineLock) :
    (judgePair std pat t s).timing.Lawful := by
  obtain ⟨hp, hf⟩ := h.lock.lineLocked hl
  unfold judgePair
  dsimp only
  split
  · exact enterFrameLock_keepsTiming pat t (by exact h.raster) (by exact hp) rfl
  · exact addFaults_keepsTiming _ (h.withRlc rfl (.toLineLock hl hp hf))

theorem pairSync_keepsTiming (pat : Pattern) (t : Time) (h : s.timing.Lawful) (hl : s.rlc.lock = .lineLock) :
    (pairSync pat t s).timing.Lawful := by
  have hlock := s.rlc.lineOfEvent_lock t
  have hline : LockKnowledge (s.rlc.lineOfEvent t) := LockKnowledge.lineOfEvent h.lock t
  unfold pairSync
  dsimp only
  split
  · exact h.withRlc hlock (hline.congr rfl rfl rfl rfl)
  · exact judgePair_keepsTiming _ pat t (h.withRlc hlock hline) (hlock.trans hl)

theorem checkField_keepsTiming {std : Standard} {f : RefField} (pat : Pattern) (h : s.timing.Lawful) (hl : s.rlc.lock = .frameLock)
    (hstd : s.rlc.standard = some std) (hcount : f.count < expectedLines std f.id) : (checkField std f pat s).timing.Lawful := by
  have htaken : ∀ len n, (s.withRlc { s.rlc with
      field := some (takeFieldSync std s.rlc.fieldLength f).field, fieldLength := len, parityCount := n }).timing.Lawful := by
    refine fun len n => h.withRlc rfl ?_
    simpa only [LockKnowledge, hl] using
      ⟨(h.lock.locked (.inl hl)).1, std, _, hstd, rfl, takeFieldSync_count std s.rlc.fieldLength hcount⟩
  unfold checkField
  dsimp only
  split
  · exact dropToLineLock_keepsTiming _ (addFaults_keepsTiming _ (htaken _ _)) (by rw [addFaults_frame]; exact hl)
  · exact addFaults_keepsTiming _ (htaken _ _)

theorem frameSync_keepsTiming (pat : Pattern) (t : Time) (h : s.timing.Lawful) (hl : s.rlc.lock = .frameLock) :
    (frameSync pat t s).timing.Lawful := by
  have hlock := (s.rlc.lineOfEvent_lock t).trans hl
  have hline : LockKnowledge (s.rlc.lineOfEvent t) := LockKnowledge.lineOfEvent h.lock t
  have hs := h.withRlc (s.rlc.lineOfEvent_lock t) hline
  obtain ⟨std, f, hstd, hf, hcount⟩ := (hline.locked (.inl hlock)).2
  simp only [frameSync, State.withRlc_rlc, hstd, hf]
  exact checkField_keepsTiming pat hs hlock hstd hcount

theorem confirm_keepsTiming {std : Standard} (pat : Pattern) (t : Time) (h : s.timing.Lawful) (hstd : s.rlc.standard = some std) :
    (confirm std pat t s).timing.Lawful := by
  unfold confirm
  dsimp only
  split
  · exact enterFrameLock_keepsTiming pat t (by exact h.raster) rfl (by exact hstd)
  · rw [addFaults_mismatch]
    exact changeLock_lineLock_settlesTiming (by exact h.raster) rfl rfl

theorem fieldSync_keepsTiming (input : Input) (pat : Pattern) (t : Time) (h : s.timing.Lawful) :
    (fieldSync input pat t s).timing.Lawful := by
  unfold fieldSync
  split
  · split
    · exact h
    · exact pairSync_keepsTiming pat t h ‹_›
    · exact frameSync_keepsTiming pat t h ‹_›
    · unfold flywheelFieldSync
      split
      · exact confirm_keepsTiming pat t h ‹_›
      · exact h
  · exact h

/-! ### Requests of the controller (07 R134 to R136, R149) -/

theorem moveForSwitch_keepsTiming (h : s.timing.Lawful) : (moveForSwitch s).timing.Lawful := by
  unfold moveForSwitch
  split
  · rename_i hl
    exact h.withRlc rfl (.noPrediction hl rfl rfl)
  · exact enterSearch_keepsTiming h
  · exact enterFlywheel_keepsTiming h ‹_›
  · exact h.withRlc rfl (h.lock.congr rfl rfl rfl rfl)

theorem selectSource_keepsTiming (ops : List Byte) (h : s.timing.Lawful) : (selectSource ops s).timing.Lawful := by
  refine withOperands_keepsTiming h fun _ => ?_
  split
  · exact h
  · exact moveForSwitch_keepsTiming (h.withRlc rfl (h.lock.congr rfl rfl rfl rfl))

theorem setProfile_keepsTiming (ops : List Byte) (h : s.timing.Lawful) : (setProfile ops s).timing.Lawful := by
  refine withOperands_keepsTiming h fun _ => ?_
  rw [replyOkTo_timing]
  cases profileOf (op8 ops 0) <;> exact h.withRlc rfl (h.lock.congr rfl rfl rfl rfl)

theorem setInput_keepsTiming (ops : List Byte) (h : s.timing.Lawful) : (setInput ops s).timing.Lawful := by
  refine withOperands_keepsTiming h fun _ => ?_
  rw [replyOkTo_timing]
  cases inputOf (op8 ops 0) <;> exact h.withRlc rfl (h.lock.congr rfl rfl rfl rfl)

theorem applySetting_keepsTiming (h : s.timing.Lawful) : (applySetting s).timing.Lawful := by
  unfold applySetting
  split
  · rename_i hd
    obtain ⟨std, hl, -⟩ := (RefLock.disallowed_iff _).mp hd
    exact dropToLineLock_keepsTiming _ (addFaults_keepsTiming _ h) (by rw [addFaults_frame]; exact hl)
  · exact h

theorem setStandard_keepsTiming (ops : List Byte) (h : s.timing.Lawful) : (setStandard ops s).timing.Lawful :=
  withOperands_keepsTiming h fun _ => applySetting_keepsTiming (h.withRlc rfl (h.lock.congr rfl rfl rfl rfl))

theorem readTiming_keepsTiming (h : s.timing.Lawful) : (readTiming s).timing.Lawful :=
  h.withRlc rfl (h.lock.congr rfl rfl rfl rfl)

/-! ### The raster's own commands (08 R160 to R170) -/

theorem settleSegments_keepsTiming (h : s.timing.Lawful) : (settleSegments s).timing.Lawful :=
  h.withRaster (h.raster.settleSegment _) (Raster.settleSegment_hold_iff _ _)

/-- Taking a line start brings the width of the parameters into force (08 R157, R170). -/
theorem takeLineStart_keepsTiming (h : s.timing.Lawful) : (takeLineStart s).timing.Lawful := by
  obtain ⟨hparams, -, -, hl⟩ := h.raster.ranges
  have hstarted : RasterLaws { s.raster with startDue := false, width := s.raster.params.activeWidth } :=
    ⟨⟨hparams, hparams.width.1, hparams.width.2, hl⟩, h.raster.high, h.raster.offset⟩
  exact ⟨hstarted.countSegment s.rlc.lock, (Eq.congr_left (Raster.countSegment_slew _ _)).trans h.hold, h.lock⟩

theorem moveToLineStart_keepsTiming (h : s.timing.Lawful) : (moveToLineStart s).timing.Lawful := by
  unfold moveToLineStart
  split
  · exact h
  · split
    · exact endField_keepsTiming h
    · rename_i hend
      have hl : s.raster.line < frameLines s.raster.std := h.raster.line
      have hnext : s.raster.line + 1 ≠ frameLines s.raster.std := fun he => hend (by simp [Raster.atFieldEnd, he])
      exact h.withRaster (h.raster.toLine (by exact Nat.lt_of_le_of_ne hl hnext)) (Eq.congr_left (Raster.toLine_slew _ _))

theorem nextLineStart_keepsTiming (h : s.timing.Lawful) : (nextLineStart s).timing.Lawful := by
  unfold nextLineStart
  split
  · exact hardAlign_settlesTiming _ _ h.raster h.lock
  · exact takeLineStart_keepsTiming (moveToLineStart_keepsTiming h)

/-- The operands that pass the check of SET RASTER are parameters in range, with quick align on or off (08 R169). -/
theorem rasterOk_iff (ops : List Byte) : rasterOk ops = true ↔ (rasterFields ops).InRange ∧ op8 ops 13 ≤ 1 := by
  have hbytes := And.intro (op8_lt ops 8) (And.intro (op8_lt ops 9) (op8_lt ops 10))
  have htimeout := op16_lt ops 11
  simp only [rasterOk, Bool.and_eq_true, decide_eq_true_eq, RasterParams.InRange, rasterFields]
  omega

theorem replaceParams_keepsTiming {q : RasterParams} (hq : q.InRange) (t : Time) (h : s.timing.Lawful) :
    (replaceParams q t s).timing.Lawful := by
  have hr := h.raster.setParams hq t
  have hk := LockKnowledge.repredict h.lock s.raster.params q
  unfold replaceParams
  dsimp only
  split
  · exact hardAlign_settlesTiming _ t hr hk
  · refine ⟨hr, (Raster.setParams_hold_iff _ _ _).trans (h.hold.trans ?_), hk⟩
    exact not_congr (Eq.congr_left (congrArg RefLock.lock (RefLock.repredict_frame s.rlc s.raster.params q)).symm)

theorem setRaster_keepsTiming (t : Time) (ops : List Byte) (h : s.timing.Lawful) : (setRaster t ops s).timing.Lawful :=
  withOperands_keepsTiming h fun hok => replaceParams_keepsTiming ((rasterOk_iff ops).mp hok).1 t h

theorem alignNow_keepsTiming (t : Time) (h : s.timing.Lawful) : (alignNow t s).timing.Lawful := by
  unfold alignNow
  split
  · exact hardAlign_settlesTiming _ t h.raster h.lock
  · exact h

/-! ## Every command -/

/-- Every command keeps the laws of both blocks. -/
theorem exec_keepsTiming (i : Instr) (h : s.timing.Lawful) : ∃ t, exec i s = .next t ∧ t.timing.Lawful := by
  cases i with
  | powerOnReset => exact ⟨_, execPowerOnReset_eq s, (timingInvariant_iff State.reset).mp timing_powerOn⟩
  | selectSource => exact ⟨_, rfl, withRequest_keepsTiming _ (fun ops _ => selectSource_keepsTiming ops) h⟩
  | setProfile => exact ⟨_, rfl, withRequest_keepsTiming _ (fun ops _ => setProfile_keepsTiming ops) h⟩
  | setInput => exact ⟨_, rfl, withRequest_keepsTiming _ (fun ops _ => setInput_keepsTiming ops) h⟩
  | setStandard => exact ⟨_, rfl, withRequest_keepsTiming _ (fun ops _ => setStandard_keepsTiming ops) h⟩
  | readTiming => exact ⟨_, rfl, withRequest_keepsTiming _ (fun _ _ => readTiming_keepsTiming) h⟩
  | setRaster t => exact ⟨_, rfl, withRequest_keepsTiming _ (fun ops _ => setRaster_keepsTiming t ops) h⟩
  | alignNow t => exact ⟨_, rfl, withRequest_keepsTiming _ (fun _ _ => alignNow_keepsTiming t) h⟩
  | fieldBoundary => exact ⟨_, rfl, by split; exacts [endField_keepsTiming h, h]⟩
  | holdoverExpiry => exact ⟨_, rfl, settleShare_keepsTiming h⟩
  | slewTimeout => exact ⟨_, rfl, by split; exacts [hardAlign_settlesTiming _ _ h.raster h.lock, h]⟩
  | lineStart =>
    exact ⟨_, rfl, nextLineStart_keepsTiming (settleSegments_keepsTiming (lawful_of_timing h (settleMark_timing s)))⟩
  | segmentEnd => exact ⟨_, rfl, by split; exacts [h.withRaster h.raster.rampSegment (Raster.rampSegment_hold_iff _), h]⟩
  | holdDecaySegment =>
    exact ⟨_, rfl, by split; exacts [h.withRaster (h.raster.decaySegment _) (by rw [Raster.decaySegment_slew]), h]⟩
  | lineSync input t => exact ⟨_, rfl, lineSync_keepsTiming input t h⟩
  | lineWindowClose => exact ⟨_, rfl, by split; exacts [closeWindow_keepsTiming h (RefLock.hasWindow_lock ‹_›), h]⟩
  | fieldSync input pat t => exact ⟨_, rfl, fieldSync_keepsTiming input pat t h⟩
  | flywheelPredictedLine => exact ⟨_, rfl, passFlywheelLine_keepsTiming h⟩
  | recallScene => exact ⟨_, rfl, withRequest_leavesTiming _ (fun ops t => withOperands_timing (by split <;> simp)) h⟩
  | setMark | setInterval | setCounter | place | amend | showPlate | close | drop | groupClose | groupMove | setPinned | query
  | probe | list | setLevels | setKeying | readCues | doCue | saveScene | clearScene =>
    exact ⟨_, rfl, withRequest_leavesTiming _ (fun ops t => withOperands_timing (by simp)) h⟩
  | writeCues | setSequencer | start =>
    exact ⟨_, rfl, withRequest_leavesTiming _ (fun ops t => withOperands_timing (whenHalted_timing rfl)) h⟩
  | step => exact ⟨_, rfl, withRequest_leavesTiming _ (fun _ => trigger_timing) h⟩
  | setFieldCount | readCounters | halt | readScenes | sync | setEnables | readAttention =>
    exact ⟨_, rfl, withRequest_leavesTiming _ (fun _ _ => rfl) h⟩
  | abort | softReset | requestByteWrite | replyByteRead | attentionClear | unknownRequest | unframeableRequest | listSlotExamine
  | listResume | listEnd | fieldReport | cueInEdge => exact ⟨_, rfl, lawful_of_timing h (by simp)⟩
  | cueExecution | stallResumption | delayExpiry | intervalExpiry | countDone | haltOnCount =>
    exact ⟨_, rfl, lawful_of_timing h (by split <;> simp)⟩

end

/-- Settles O60: the laws are those of the two blocks that keep time, and every command keeps them. -/
theorem stepsKeepTheTiming : Obligations.StepsKeepTheTiming := by
  intro s t h hstep
  have hs := (timingInvariant_iff s).mp h
  refine (timingInvariant_iff t).mpr ?_
  unfold step at hstep
  split at hstep
  · cases hstep
    exact hs
  · rename_i c rest _
    obtain ⟨u, hu, hlawful⟩ := exec_keepsTiming c (lawful_of_timing hs (withPending_timing s rest))
    rw [hu] at hstep
    cases hstep
    exact hlawful

end Sys2Proof.Machine
end

section
/-! PROOFS. Segment ends, decay segments, the counting of lines, and the slew timeout (08 R160, R163 to R166). -/

namespace Sys2Proof.Machine

/-! ## The ramp-down distance (08 R164) -/

/-- The terms |o| - step, |o| - 2 step, ... that are above 0 are the first (|o| - 1) / step, and sum as rampDownSum has it. -/
theorem sum_rampDownTerms (a step n : Nat) (h : n * step ≤ a) :
    ((List.range n).map fun k => a - (k + 1) * step).sum = n * a - step * (n * (n + 1) / 2) := by
  induction n with
  | zero => simp
  | succ n ih =>
    have htri : step * ((n + 1) * (n + 2) / 2) = step * (n * (n + 1) / 2) + (n + 1) * step := by
      rw [show (n + 1) * (n + 2) = n * (n + 1) + (n + 1) * 2 by ring, Nat.add_mul_div_right _ _ (by decide)]
      ring
    have hprev : n * step ≤ a := le_trans (Nat.mul_le_mul_right _ (Nat.le_succ n)) h
    have hfit : step * (n * (n + 1) / 2) ≤ n * a := by
      calc step * (n * (n + 1) / 2) ≤ step * (n * (n + 1)) := Nat.mul_le_mul_left _ (Nat.div_le_self _ _)
        _ = n * ((n + 1) * step) := by ring
        _ ≤ n * a := Nat.mul_le_mul_left _ h
    rw [List.range_succ, List.map_append, List.sum_append, ih hprev, htri, Nat.succ_mul n a]
    simp only [List.map_cons, List.map_nil, List.sum_cons, List.sum_nil]
    omega

/-- Beyond the terms above 0 nothing is added. -/
theorem sum_rampDownTerms_all {a step n m : Nat} (h : a ≤ (n + 1) * step) (hm : n ≤ m) :
    ((List.range m).map fun k => a - (k + 1) * step).sum = ((List.range n).map fun k => a - (k + 1) * step).sum := by
  obtain ⟨d, rfl⟩ := Nat.exists_eq_add_of_le hm
  induction d with
  | zero => rfl
  | succ d ih =>
    have hzero : a - (n + d + 1) * step = 0 :=
      Nat.sub_eq_zero_of_le (h.trans (Nat.mul_le_mul_right _ (by omega)))
    rw [← Nat.add_assoc, List.range_succ, List.map_append, List.sum_append, ih (Nat.le_add_right n d)]
    simp [hzero]

theorem rampDownSum_eq {step : Nat} (h : 1 ≤ step) (o : Int) :
    rampDownSum o step = ((List.range o.natAbs).map fun k => o.natAbs - (k + 1) * step).sum := by
  have hdiv := Nat.div_add_mod (o.natAbs - 1) step
  have hmod := Nat.mod_lt (o.natAbs - 1) h
  have hle : (o.natAbs - 1) / step ≤ o.natAbs := (Nat.div_le_self _ _).trans (Nat.sub_le _ _)
  unfold rampDownSum
  generalize (o.natAbs - 1) / step = n at hdiv hle
  rw [Nat.mul_comm] at hdiv
  rw [sum_rampDownTerms_all (n := n) (by rw [Nat.succ_mul]; omega) hle, sum_rampDownTerms _ _ _ (by omega)]

theorem withinRampDown_iff {q : RasterParams} {std : Standard} {o : Int} {d : Nat} (hstep : 1 ≤ q.rampStep)
    (hd : RampDownDistance q std o d) (e : Int) : withinRampDown q std o e = true ↔ e.natAbs * 65536 ≤ d := by
  rw [withinRampDown, decide_eq_true_iff, rampDownSum_eq hstep, hd]

/-! ## The table of a segment end (08 R163) -/

theorem opposes_iff (gain : Bool) (e : Int) : opposes gain e = true ↔ (gain = true ∧ e < 0) ∨ (gain = false ∧ 0 < e) := by
  cases gain <;> simp [opposes]

theorem onSide_iff (gain : Bool) (o : Int) : onSide gain o = true ↔ (gain = true ∧ 0 < o) ∨ (gain = false ∧ o < 0) := by
  cases gain <;> simp [onSide]

section
variable {q : RasterParams} {std : Standard} {w : Ramp} {o : Int}

/-- Orders 1 and 2: an error against the direction, or a ramp run down, restarts the ramp. -/
theorem segmentOutcome_restarts (h : opposes w.gain w.err = true ∨ (w.stage = .down ∧ o = 0)) :
    segmentOutcome q std w o = restartRamp q w o := by
  unfold segmentOutcome
  rcases h with h | h
  · rw [if_pos h]
  · rw [if_pos h, ite_self]

/-- Order 3: RAMP DOWN steps toward 0. -/
theorem segmentOutcome_down (hop : ¬ opposes w.gain w.err = true) (hs : w.stage = .down) (ho : o ≠ 0) :
    segmentOutcome q std w o = { ramp := w, offset := stepToZero q.rampStep o } := by
  unfold segmentOutcome
  rw [if_neg hop, if_neg fun h => ho h.2, if_pos hs]

/-- Order 4: within the ramp-down distance the ramp turns. -/
theorem segmentOutcome_turns (hop : ¬ opposes w.gain w.err = true) (hs : w.stage ≠ .down)
    (hin : onSide w.gain o = true ∧ withinRampDown q std o w.err = true) :
    segmentOutcome q std w o = { ramp := { w with stage := .down }, offset := stepToZero q.rampStep o } := by
  unfold segmentOutcome
  rw [if_neg hop, if_neg fun h => hs h.1, if_neg hs, if_pos hin]

section
variable (hop : ¬ opposes w.gain w.err = true) (hout : ¬ (onSide w.gain o = true ∧ withinRampDown q std o w.err = true))
include hop hout

/-- Order 5: RAMP UP steps toward the pull limit. -/
theorem segmentOutcome_up (hs : w.stage = .up) : segmentOutcome q std w o = rampUpStep q w o := by
  have hdown : w.stage ≠ .down := by rw [hs]; exact fun h => nomatch h
  unfold segmentOutcome
  rw [if_neg hop, if_neg fun h => hdown h.1, if_neg hdown, if_neg hout, if_pos hs]

/-- Order 6: CRUISE keeps the offset. -/
theorem segmentOutcome_cruise (hs : w.stage = .cruise) : segmentOutcome q std w o = { ramp := w, offset := o } := by
  have hdown : w.stage ≠ .down := by rw [hs]; exact fun h => nomatch h
  unfold segmentOutcome
  rw [if_neg hop, if_neg fun h => hdown h.1, if_neg hdown, if_neg hout, if_neg (by rw [hs]; exact fun h => nomatch h)]

end
end

theorem stepToZero_eq {step : Nat} {o zero : Int} (h : StepsToward step 0 o zero) : stepToZero step o = zero :=
  (stepToZero_spec step o).unique h

theorem stepToward_eq {step : Nat} {aim o o' : Int} (h : StepsToward step aim o o') : stepToward step aim o = o' :=
  (stepToward_spec step aim o).unique h

/-! ## The commands (08 R160, R163, R165) -/

section
variable {s : State}

/-- SEGMENT END in SLEW, with a segment end due, puts the outcome of the table into the raster (08 R163). -/
theorem execSegmentEnd_due {w : Ramp} (hw : s.raster.slew = .slew w) (hd : s.raster.segDue = true) {z : SegmentOutcome}
    (hz : segmentOutcome s.raster.params s.raster.std w s.raster.offset = z) :
    exec .segmentEnd s = .next { s with raster := { s.raster with slew := .slew z.ramp, offset := z.offset, segDue := false } } := by
  have hdue : s.raster.slewSegmentDue = true := by simp [Raster.slewSegmentDue, hd, hw]
  refine congrArg Host.Outcome.next ((if_pos hdue).trans ?_)
  simp only [Raster.rampSegment, hw, hz]
  rfl

theorem LockState.decays_iff (lock : LockState) : lock.decays = true ↔ lock = .search ∨ lock = .lineLock := by
  cases lock <;> simp [LockState.decays]

theorem execHoldDecaySegment_due (hw : s.raster.slew = .hold) (hd : s.raster.segDue = true) (hl : s.rlc.lock.decays = true) :
    exec .holdDecaySegment s = .next { s with
      raster := { s.raster with offset := stepToZero s.raster.params.rampStep s.raster.offset, segDue := false } } := by
  have hdue : s.raster.holdSegmentDue s.rlc.lock = true := by simp [Raster.holdSegmentDue, hd, hw, hl]
  refine congrArg Host.Outcome.next ((if_pos hdue).trans ?_)
  simp only [Raster.decaySegment, hw, hl, if_true]
  rw [← hw]
  rfl

/-- With no segment end due neither command changes anything (log 2). -/
theorem segments_notDue (hd : s.raster.segDue = false) :
    exec .segmentEnd s = .next s ∧ exec .holdDecaySegment s = .next s :=
  ⟨congrArg Host.Outcome.next (if_neg (by simp [Raster.slewSegmentDue, hd])),
    congrArg Host.Outcome.next (if_neg (by simp [Raster.holdSegmentDue, hd]))⟩

/-- The timeout align stands at the start of field line 1 of a SLEW (08 R165). -/
theorem Raster.timeoutNow_iff (r : Raster) : r.timeoutNow = true ↔
    r.timeoutDue = true ∧ r.startDue = false ∧ fieldLine r.std r.line = 0 ∧ ∃ w, r.slew = .slew w := by
  unfold Raster.timeoutNow
  cases r.slew <;> simp [and_assoc]

theorem execSlewTimeout_due (h : s.raster.timeoutNow = true) :
    exec .slewTimeout s = .next (hardAlign s .slewTimeout s.raster.lineEnd) := congrArg Host.Outcome.next (if_pos h)

/-- The next line start makes the timeout align in its place (08 R165; log 13). -/
theorem execLineStart_timeout (h : s.raster.timeoutNow = true) (hm : s.seq.marksDue = 0) (hd : s.raster.segDue = false) :
    exec .lineStart s = exec .slewTimeout s := by
  rw [execLineStart_noMark hm, settleSegments_none hd, execSlewTimeout_due h, nextLineStart, if_pos h]

end

theorem Raster.countsSegments_iff (r : Raster) (lock : LockState) : r.countsSegments lock = true ↔
    (∃ w, r.slew = .slew w) ∨ (r.slew = .hold ∧ (lock = .search ∨ lock = .lineLock)) := by
  unfold Raster.countsSegments
  cases r.slew <;> simp [LockState.decays_iff]

theorem Raster.countTimer_slewing {r : Raster} {w : Ramp} (h : r.slew = .slew w) : r.countTimer = { r with
    timer := min (r.timer + 1) 65535
    timeoutDue := decide (r.params.slewTimeout ≠ 0 ∧ r.params.slewTimeout ≤ min (r.timer + 1) 65535) } := by
  simp only [Raster.countTimer, h, Bool.decide_and]

theorem Raster.countTimer_other {r : Raster} (h : ∀ w, r.slew ≠ .slew w) : r.countTimer = r := by
  unfold Raster.countTimer
  split
  · exact absurd ‹_› (h _)
  all_goals rfl

/-- Settles O50: the segment end by the orders of its table, the counts by what they count in, the timeout by whether it is due. -/
theorem segmentsAndTimeoutsMoveTheSlew : Obligations.SegmentsAndTimeoutsMoveTheSlew := by
  refine ⟨?segmentEnd, fun s zero hw hd hl hz => ?decay, fun s => segments_notDue, fun r lock counts hcounts => ?counting,
    fun r => ⟨fun ⟨w, hw⟩ => Raster.countTimer_slewing hw, Raster.countTimer_other⟩, fun s due hdue => ?timeout⟩
  case segmentEnd =>
    rintro s w o o' zero d out opposed hw hd rfl hstep rfl hopposed hzero hdist
    have hop : opposed ↔ opposes w.gain w.err = true := hopposed.trans (opposes_iff _ _).symm
    have hin : (onSide w.gain s.raster.offset = true ∧ withinRampDown s.raster.params s.raster.std s.raster.offset w.err = true) ↔
        ((w.gain = true ∧ 0 < s.raster.offset) ∨ (w.gain = false ∧ s.raster.offset < 0)) ∧ w.err.natAbs * 65536 ≤ d :=
      and_congr (onSide_iff _ _) (withinRampDown_iff hstep hdist _)
    rw [hop, ← hin]
    refine ⟨fun h ho' => ?restarts, fun hno hs ho => ?down, fun hno hs hside hwithin => ?turns,
      fun hno hout => ⟨fun hs => ?cruise, fun aim haim ho' hs => ?up⟩⟩
    case restarts =>
      have haim : rampAim s.raster.params.pullLimit (decide (0 < w.err)) =
          if 0 < w.err then (s.raster.params.pullLimit : Int) else -s.raster.params.pullLimit := by simp [rampAim]
      rw [execSegmentEnd_due hw hd (segmentOutcome_restarts h), restartRamp, haim, stepToward_eq ho']
    case down => rw [execSegmentEnd_due hw hd (segmentOutcome_down hno hs ho), stepToZero_eq hzero]
    case turns => rw [execSegmentEnd_due hw hd (segmentOutcome_turns hno hs (hin.mpr ⟨hside, hwithin⟩)), stepToZero_eq hzero]
    case cruise => exact execSegmentEnd_due hw hd (segmentOutcome_cruise hno hout hs)
    case up =>
      have haim' : rampAim s.raster.params.pullLimit w.gain = aim := haim.symm
      rw [execSegmentEnd_due hw hd (segmentOutcome_up hno hout hs), rampUpStep, haim', stepToward_eq ho']
  case decay =>
    rw [execHoldDecaySegment_due hw hd ((LockState.decays_iff _).mpr hl), stepToZero_eq hz]
  case counting =>
    rw [hcounts, ← Raster.countsSegments_iff]
    unfold Raster.countSegment
    refine ⟨fun hno => if_neg hno, fun hyes hlt => ?_, fun hyes hle => ?_⟩
    · rw [if_pos hyes, if_neg (Nat.not_le.mpr hlt)]
    · rw [if_pos hyes, if_pos hle]
  case timeout =>
    rw [hdue, ← Raster.timeoutNow_iff]
    exact ⟨fun hno => congrArg Host.Outcome.next (if_neg hno),
      fun hyes => ⟨⟨_, execSlewTimeout_due hyes, hardAlign_aligned s .slewTimeout _⟩, execLineStart_timeout hyes⟩⟩

end Sys2Proof.Machine
end

section
/-! PROOFS. FIELD BOUNDARY, ALIGN NOW and SET RASTER: the boundary in every block, and the two requests that align the raster (08 R158,
R166 to R170). -/

namespace Sys2Proof.Machine

/-! ## FIELD BOUNDARY (08 R156, R158) -/

/-- A share of an earlier boundary settled touches the slew state of the raster and its counts alone (07 R145; 08 R160). -/
theorem settleShare_raster (s : State) : ∃ w n d k e, (settleShare s).raster =
    { s.raster with slew := w, segLines := n, segDue := d, timer := k, timeoutDue := e } := by
  unfold settleShare
  split
  · by_cases he : s.rlc.expires = true
    · rw [takeShare_expires he]
      exact ⟨_, _, _, _, _, rfl⟩
    · rw [takeShare, if_neg he]
      exact ⟨_, _, _, _, _, rfl⟩
  · exact ⟨_, _, _, _, _, rfl⟩

/-- The slew timer counts apart from the line in progress: the next line begins as without it (08 R159, R165). -/
theorem Raster.toLine_countTimer {r : Raster} (h : r.startDue = false) (line : Nat) :
    r.countTimer.toLine line = { r.countTimer with
      line := line, posTime := r.lineEnd, startDue := true
      pos := r.pos + (r.lineEnd - r.posTime) * (1048576 + r.offset) - r.line16 * 1048576 } := by
  rw [Raster.countTimer_frame, Raster.toLine, if_neg (by exact Bool.eq_false_iff.mp h)]
  rfl

theorem Raster.countTimer_nextFieldLine (r : Raster) : r.countTimer.nextFieldLine = r.nextFieldLine := by
  rw [Raster.countTimer_frame]
  rfl

/-- After the last line of a field comes the next one of the frame, or line 0 (08 R156). -/
theorem LastFieldLine.nextFieldLine {r : Raster} (h : LastFieldLine r) : r.nextFieldLine = (r.line + 1) % frameLines r.std := by
  obtain ⟨-, ⟨hs, hl | hl⟩ | ⟨hs, hl | hl⟩⟩ := h <;> rw [Raster.nextFieldLine, hs, hl] <;> rfl

/-- The raster at the end of a field: its timer counted, and the next field's first line begun at the end of the last one (08 R156, R158,
R159, R165). -/
theorem endField_raster {s : State} (h : LastFieldLine s.raster) :
    (endField s).raster = { (settleShare s).raster.countTimer with
      line := (s.raster.line + 1) % frameLines s.raster.std, posTime := s.raster.lineEnd, startDue := true
      pos := s.raster.pos + (s.raster.lineEnd - s.raster.posTime) * (1048576 + s.raster.offset) -
        s.raster.line16 * 1048576 } := by
  have hend : (endField s).raster = (takeBoundary s).raster.toLine (takeBoundary s).raster.nextFieldLine := rfl
  obtain ⟨w, n, d, k, e, hr⟩ := settleShare_raster s
  have hlast : LastFieldLine (settleShare s).raster := by rw [hr]; exact h
  rw [hend, takeBoundary_raster, Raster.countTimer_nextFieldLine, hlast.nextFieldLine, Raster.toLine_countTimer hlast.1, hr]
  rfl

/-- What the raster becomes after a boundary is no part of it. -/
theorem endField_taken (s : State) : BoundaryTaken s (endField s) (endField s).att :=
  fun t f w ht hf hw => takeBoundary_taken s t f w ht hf hw

/-- Settles O38: the end of a field by its boundary and its raster, and nothing before the last line. -/
theorem fieldBoundaryReachesEveryBlock : Obligations.FieldBoundaryReachesEveryBlock := by
  refine ⟨fun s h => congrArg Host.Outcome.next (if_neg (mt (lastFieldLine_iff _).mpr h)), ?_⟩
  rintro s t e hlast rfl rfl
  exact ⟨_, execFieldBoundary_ends hlast, endField_taken s, endField_raster hlast, takeBoundary_counter s,
    congrArg PlateTable.queue (takeBoundary_table s)⟩

/-! ## ALIGN NOW (08 R166, R167) -/

/-- With no SYNC waiting a hard align leaves the port (09 R181). -/
theorem hardAlign_port {s : State} (h : s.port.job = .idle) (cause : AlignCause) (t : Time) : (hardAlign s cause t).port = s.port := by
  have hport : (hardAlign s cause t).port = (takeBoundary _).port := rfl
  rw [hport, takeBoundary_port]
  simp only [State.withKeyer_port, State.withRaster_port, h, Job.takeFigures]
  rw [← h]

/-- In FRAME LOCK a hard align that keeps the standard restarts the raster in TRACK at the reference's frame position (07 R148; 08 R166;
log 27, log 34). -/
theorem Aligned.raster_frameLock {s u : State} {cause : AlignCause} {t : Time} (ha : Aligned s u cause s.raster.std t)
    (hl : s.rlc.lock = .frameLock) {std : Standard} {f : RefField} {n x : Int} (hstd : s.rlc.standard = some std)
    (hf : s.rlc.field = some f)
    (hn : n = (fieldStart std f.id + f.count - s.rlc.sinceGood + (t - s.rlc.goodTime) / s.rlc.period) % (frameLines std : Int))
    (hx : x = (n * s.raster.line16 + (t - s.rlc.goodTime) % s.rlc.period) % s.raster.frame16) :
    u.raster = { s.raster with
      slew := .track, segLines := 0, segDue := false, timer := 0, timeoutDue := false, resetLow := false
      pulses := s.raster.pulses + 1, line := (x / s.raster.line16).toNat, pos := (x % s.raster.line16) * 1048576, posTime := t
      startDue := decide (x % s.raster.line16 = 0) } := by
  obtain ⟨n', rem, r, att, ⟨-, hpos⟩, rfl, -, hraster, -⟩ := ha
  obtain ⟨rfl, rfl⟩ := (hpos std f hstd hf).1 hl
  rw [hraster, if_pos hl, hx, hn]
  rfl

section
variable {s : State} {t : Time} {rest : List Byte} (h : RequestReady s 0x06#8 2 [] rest)
include h

theorem execAlignNow_noReference (hl : s.rlc.lock ≠ .frameLock) : exec (.alignNow t) s = .next (answered s rest 0x87#8 []) := by
  refine congrArg Host.Outcome.next ?_
  rw [withRequest_ready reqAlignNow (fun _ => alignNow t) h (by simp) (by simp [reqAlignNow]), alignNow, if_neg (by exact hl)]
  rfl

theorem execAlignNow_aligns (hl : s.rlc.lock = .frameLock) :
    exec (.alignNow t) s = .next (replyOkTo (hardAlign { s with port := { s.port with requests := rest } } .alignRequest t)) := by
  refine congrArg Host.Outcome.next ?_
  rw [withRequest_ready reqAlignNow (fun _ => alignNow t) h (by simp) (by simp [reqAlignNow]), alignNow, if_pos (by exact hl)]
  rfl

end

/-- Settles O29: the refusal outside FRAME LOCK, and the align in it with the raster that it leaves. -/
theorem alignNowRestartsTheRaster : Obligations.AlignNowRestartsTheRaster := by
  intro s t rest h
  refine ⟨execAlignNow_noReference h, fun hl => ?_⟩
  have haligned := hardAlign_aligned { s with port := { s.port with requests := rest } } .alignRequest t
  exact ⟨_, haligned, execAlignNow_aligns h hl, hardAlign_port (by exact h.2.1) _ _,
    fun std f n x hstd hf => haligned.raster_frameLock hl hstd hf⟩

/-! ## SET RASTER (08 R169, R170) -/

theorem clampOffset_above {limit : Nat} {x : Int} (h : (limit : Int) < x) : clampOffset limit x = limit := by
  unfold clampOffset
  omega

theorem clampOffset_below {limit : Nat} {x : Int} (h : x < -(limit : Int)) : clampOffset limit x = -(limit : Int) := by
  unfold clampOffset
  omega

/-- The model replaces the parameters as the statements say (08 R170; log 6). -/
theorem Raster.setParams_replaced (r : Raster) (q : RasterParams) (t : Time) : ParamsReplaced r (r.setParams q t) q t := by
  refine ⟨rfl, clampOffset_id, clampOffset_above, clampOffset_below, fun h => ?_, fun h => ?_, fun w h => ?_⟩
  · simp only [Raster.setParams, h]
  · simp only [Raster.setParams, h]
  · simp only [Raster.setParams, h]
    split <;> rfl

/-- A changed nominal period predicts the next line not yet entered as the statements say (08 R170; log 37). -/
theorem RefLock.repredict_repredicted (c : RefLock) (q q' : RasterParams) : Repredicted c (c.repredict q q') q q' := by
  refine ⟨fun h => ?_, fun std hl hstd => ⟨fun hq => ?_, fun hq => ⟨fun he => ?_, fun he => ?_⟩⟩⟩
  · unfold RefLock.repredict
    split
    · rename_i std hl hstd
      rcases h with h | h
      · exact absurd hl h
      · exact nomatch hstd.symm.trans h
    · rfl
  · simp only [RefLock.repredict, hl, hstd, if_pos hq]
  · simp only [RefLock.repredict, hl, hstd, if_neg hq, he, Bool.false_eq_true, if_false, nominal16]
  · simp only [RefLock.repredict, hl, hstd, if_neg hq, he, if_true, nominal16]

section
variable {a0 a1 b0 b1 w0 w1 p0 p1 cw rs sl o0 o1 qa : Byte}

/-- The parameters that the 14 operand bytes spell (09 R187). -/
theorem rasterFields_bytes : rasterFields [a0, a1, b0, b1, w0, w1, p0, p1, cw, rs, sl, o0, o1, qa] =
    { length625 := (a1 ++ a0).toNat, length525 := (b1 ++ b0).toNat, activeWidth := (w1 ++ w0).toNat
      pullLimit := (p1 ++ p0).toNat, captureWindow := cw.toNat, rampStep := rs.toNat, segmentLength := sl.toNat
      slewTimeout := (o1 ++ o0).toNat, quickAlign := qa == 0x01#8 } := by
  simp only [rasterFields, op16_eq_bytes, RasterParams.mk.injEq]
  exact ⟨rfl, rfl, rfl, rfl, rfl, rfl, rfl, rfl, toNat_beq_one qa⟩

end

section
variable {s : State} {t : Time} {ops rest : List Byte} (h : RequestReady s 0x05#8 2 ops rest) (hlen : ops.length = 14)
include h hlen

theorem execSetRaster_ready :
    exec (.setRaster t) s = .next (setRaster t ops (s.withPort { s.port with requests := rest })) :=
  congrArg Host.Outcome.next
    (withRequest_ready reqSetRaster (setRaster t) h (by omega) (by rw [hlen]; exact List.mem_singleton.mpr rfl))

theorem execSetRaster_bad (hbad : ¬ rasterOk ops = true) : exec (.setRaster t) s = .next (answered s rest 0x82#8 []) := by
  rw [execSetRaster_ready h hlen, setRaster, Bool.eq_false_iff.mpr hbad]
  rfl

/-- The parameters in range are replaced, and a changed line length of the output aligns the raster (08 R169, R170). -/
theorem execSetRaster_replaces (hok : rasterOk ops = true) {q : RasterParams} (hq : rasterFields ops = q) {u : State}
    (hu : { s with port := { s.port with requests := rest }, rlc := s.rlc.repredict s.raster.params q
                   raster := s.raster.setParams q t } = u) :
    exec (.setRaster t) s = .next (replyOkTo (if lengthChanges s.raster q then hardAlign u .lineLength t else u)) := by
  rw [execSetRaster_ready h hlen, setRaster, hok, withOperands_true, hq, ← hu]
  rfl

end

theorem lengthChanges_iff (r : Raster) (q : RasterParams) :
    lengthChanges r q = true ↔ q.lineLength r.std ≠ r.params.lineLength r.std := decide_eq_true_iff

/-- Settles O28: the check, the parameters replaced, and the align when the line length of the output changes. -/
theorem setRasterReplacesTheParameters : Obligations.SetRasterReplacesTheParameters := by
  intro s t rest a0 a1 b0 b1 w0 w1 p0 p1 cw rs sl o0 o1 qa q hq h
  have hfields := rasterFields_bytes.trans hq.symm
  have hok : rasterOk [a0, a1, b0, b1, w0, w1, p0, p1, cw, rs, sl, o0, o1, qa] = true ↔ q.InRange ∧ qa.toNat ≤ 1 := by
    rw [rasterOk_iff, hfields]
    rfl
  refine ⟨fun hbad => execSetRaster_bad h rfl (mt hok.mp hbad), fun hin hqa => ?_⟩
  have hexec := execSetRaster_replaces (t := t) h rfl (hok.mpr ⟨hin, hqa⟩) hfields rfl
  refine ⟨_, _, RefLock.repredict_repredicted _ _ _, Raster.setParams_replaced _ _ _, fun hsame => ?kept, fun hchanged => ?aligned⟩
  case kept =>
    rw [hexec, if_neg (mt (lengthChanges_iff _ _).mp (not_not.mpr hsame))]
    rfl
  case aligned =>
    rw [if_pos ((lengthChanges_iff _ _).mpr hchanged)] at hexec
    exact ⟨_, hardAlign_aligned _ .lineLength t, hexec⟩

end Sys2Proof.Machine
end

section
/-! PROOFS. Every step keeps the FIFOs, the amendment queue and the LIST within their sizes, and every latch with its own detail
(01 R27; 02 R32; 09 R174, R177, R179; 10 R188). -/

namespace Sys2Proof.Machine

/-! ## Latches (10 R188) -/

/-- The state v of cause c is clear without MORE or latch, or pending with an occurrence of c. -/
def CauseState.LatchedFor (c : Cause) (v : CauseState) : Prop :=
  (v.pending = false → v.more = false ∧ v.latch = none) ∧ (v.pending = true → ∃ d, v.latch = some d ∧ d.cause = c)

/-- Every cause is latched as it should be. -/
def Attention.Latched (a : Attention) : Prop := ∀ c, (a.get c).LatchedFor c

theorem attentionInvariant_iff (s : State) : AttentionInvariant s ↔ s.att.Latched := Iff.rfl

theorem CauseState.LatchedFor.cleared (c : Cause) (v : CauseState) : v.cleared.LatchedFor c := ⟨fun _ => ⟨rfl, rfl⟩, nofun⟩

/-- A clear cause latches the occurrence, a pending one keeps the latch it has. -/
theorem CauseState.LatchedFor.occur {v : CauseState} {d : Detail} (h : v.LatchedFor d.cause) : (v.occur d).LatchedFor d.cause := by
  cases hp : v.pending with
  | false => rw [occur_clear d hp]; exact ⟨nofun, fun _ => ⟨d, rfl, rfl⟩⟩
  | true => rw [occur_pending d hp]; exact ⟨fun hclear => absurd (hp.symm.trans hclear) nofun, h.2⟩

namespace Attention.Latched
variable {a : Attention}

theorem occur (h : a.Latched) (d : Detail) : (a.occur d).Latched := fun c => by
  rw [get_occur]
  split
  · rename_i hc
    exact hc ▸ (hc ▸ h c : (a.get d.cause).LatchedFor d.cause).occur
  · exact h c

theorem occurAll (h : a.Latched) (ds : List Detail) : (a.occurAll ds).Latched :=
  List.foldlRecOn (motive := Attention.Latched) ds Attention.occur h fun _ hb d _ => hb.occur d

theorem clear (h : a.Latched) (c : Cause) : (a.clear c).Latched := fun e => by
  rw [get_clear]
  split
  · exact .cleared e _
  · exact h e

theorem clearBits (h : a.Latched) (bits : Nat) : (a.clearBits bits).Latched := fun c => by
  rw [get_clearBits]
  split
  · exact .cleared c _
  · exact h c

theorem setEnables (h : a.Latched) (bits : Nat) : (a.setEnables bits).Latched := fun c => by
  rw [get_setEnables]
  exact h c

end Attention.Latched

/-! ## The parts of the state that the sizes speak of -/

/-- The port, the queue of amendments and the attention unit. -/
structure Traffic where
  port : Port
  queue : List Amendment
  att : Attention

def State.traffic (s : State) : Traffic := { port := s.port, queue := s.table.queue, att := s.att }

/-- The sizes and the latches, with n bytes of the reply FIFO still free for the reply of the request that is executed (09 R177). -/
structure Traffic.Fits (n : Nat) (τ : Traffic) : Prop where
  requests : τ.port.requests.length ≤ 64
  replies : τ.port.replies.length + n ≤ 64
  queue : τ.queue.length ≤ 16
  list : ∀ j, τ.port.job = .list j → j.cursor ≤ 32 ∧ j.items ≤ j.cursor
  latches : τ.att.Latched

theorem traffic_fits_iff (s : State) : s.traffic.Fits 0 ↔ SizeInvariant s ∧ AttentionInvariant s :=
  ⟨fun h => ⟨⟨h.requests, h.replies, h.queue, h.list⟩, h.latches⟩,
    fun ⟨⟨hrequests, hreplies, hqueue, hlist⟩, hlatches⟩ => ⟨hrequests, hreplies, hqueue, hlist, hlatches⟩⟩

theorem Traffic.Fits.mono {τ : Traffic} {m n : Nat} (h : τ.Fits n) (hm : m ≤ n) : τ.Fits m :=
  { h with replies := Nat.le_trans (Nat.add_le_add_left hm _) h.replies }

section
variable {s : State} {n : Nat}

/-- What the port finds free is free. -/
theorem fits_of_room (h : s.traffic.Fits 0) (hroom : n ≤ s.port.room) : s.traffic.Fits n := by
  have hlength : s.port.replies.length ≤ 64 := h.replies
  have hfree : n ≤ 64 - s.port.replies.length := hroom
  exact { h with replies := show s.port.replies.length + n ≤ 64 by omega }

/-- A new attention unit leaves the rest. -/
theorem withAtt_fits {a : Attention} (h : s.traffic.Fits n) (ha : a.Latched) : (s.withAtt a).traffic.Fits n := { h with latches := ha }

theorem raise_fits (d : Detail) (h : s.traffic.Fits n) : (raise s d).traffic.Fits n := withAtt_fits h (h.latches.occur d)

theorem raiseAll_fits (ds : List Detail) (h : s.traffic.Fits n) : (raiseAll s ds).traffic.Fits n :=
  withAtt_fits h (h.latches.occurAll ds)

/-- A reply takes a code, a length byte and its body from the bytes that were free (09 R179). -/
theorem reply_fits {body : List Byte} (code : Byte) (h : s.traffic.Fits n) (hbody : body.length + 2 ≤ n) :
    (reply s code body).traffic.Fits 0 := by
  have hreplies : s.port.replies.length + n ≤ 64 := h.replies
  have hlength : (s.port.replies ++ code :: byteOf body.length :: body).length ≤ 64 := by
    simp only [List.length_append, List.length_cons]
    omega
  exact { h with replies := hlength }

theorem post_fits (o : Origin) (op : AmendOp) (h : s.traffic.Fits n) (hroom : s.table.hasRoom = true) :
    (post s o op).traffic.Fits n := by
  have hlength : (post s o op).table.queue.length ≤ 16 := by
    rw [post_queue, List.length_append]
    exact (s.table.hasRoom_iff).mp hroom
  exact { h with queue := hlength }

/-! ## The Cue Sequencer and the Field Clock (chapters 04 and 06) -/

theorem trigger_fits (h : s.traffic.Fits n) : (trigger s).traffic.Fits n := by
  unfold trigger
  split
  · exact h
  · exact h
  all_goals exact raise_fits _ h

/-- An event taken as a trigger when its source is selected. -/
theorem triggerIf_fits {b : Bool} (h : s.traffic.Fits n) : (if b then trigger s else s).traffic.Fits n := by
  split
  · exact trigger_fits h
  · exact h

theorem settleMark_fits (h : s.traffic.Fits n) : (settleMark s).traffic.Fits n := by
  unfold settleMark
  split
  · exact h
  · exact triggerIf_fits (s := s.withSeq _) h

theorem counterDone_fits (h : s.traffic.Fits n) : (counterDone s).traffic.Fits n := raise_fits .countDone h

theorem countField_fits (h : s.traffic.Fits n) : (countField s).traffic.Fits n := by
  unfold countField
  split
  · split
    · exact counterDone_fits h
    · exact h
  · exact h

theorem clockBoundary_fits (h : s.traffic.Fits n) : (clockBoundary s).traffic.Fits n :=
  countField_fits (s := (((raiseAll s _).withSeq _).withClock _)) (raiseAll_fits _ h)

theorem finishCue_fits (e : CueEntry) (h : s.traffic.Fits n) : (finishCue s e).traffic.Fits n := raiseAll_fits _ h

/-- A cue posts its amendment to a queue with room, and otherwise stalls (04 R93, R99). -/
theorem executeCue_fits (h : s.traffic.Fits n) : (executeCue s).traffic.Fits n := by
  unfold executeCue
  dsimp only
  split
  · exact finishCue_fits _ h
  · split
    · exact finishCue_fits _ (post_fits _ _ h ‹_›)
    · exact raise_fits _ h

/-! ## The Reference Lock Controller (chapter 07) -/

theorem addFaults_fits (k : SyncFaults) (h : s.traffic.Fits n) : (addFaults s k).traffic.Fits n := by
  unfold addFaults
  dsimp only
  split
  · exact h
  · exact raise_fits _ h

theorem changeLock_fits (new : LockState) (h : s.traffic.Fits n) : (changeLock s new).traffic.Fits n := by
  rw [changeLock_frame]
  exact raise_fits _ h

theorem enterSearch_fits (h : s.traffic.Fits n) : (enterSearch s).traffic.Fits n := changeLock_fits .search (s := s.withRlc _) h

theorem enterFlywheel_fits (h : s.traffic.Fits n) : (enterFlywheel s).traffic.Fits n :=
  changeLock_fits .flywheel (s := s.withRlc _) h

theorem dropToLineLock_fits (pair : Option Nat) (h : s.traffic.Fits n) : (dropToLineLock s pair).traffic.Fits n :=
  changeLock_fits .lineLock (s := s.withRlc _) h

theorem settleShare_fits (h : s.traffic.Fits n) : (settleShare s).traffic.Fits n := by
  unfold settleShare takeShare
  split
  · split
    · exact enterSearch_fits (addFaults_fits _ h)
    · exact h
  · exact h

theorem applySetting_fits (h : s.traffic.Fits n) : (applySetting s).traffic.Fits n := by
  unfold applySetting
  split
  · exact dropToLineLock_fits _ (addFaults_fits _ h)
  · exact h

theorem moveForSwitch_fits (h : s.traffic.Fits n) : (moveForSwitch s).traffic.Fits n := by
  unfold moveForSwitch
  split
  · exact h
  · exact enterSearch_fits h
  · exact enterFlywheel_fits h
  · exact h

theorem closeWindow_fits (h : s.traffic.Fits n) : (closeWindow s).traffic.Fits n := by
  unfold closeWindow loseLines
  dsimp only
  split
  · split
    · exact enterSearch_fits (s := s.withRlc _) h
    · exact enterFlywheel_fits (s := s.withRlc _) h
    all_goals exact h
  · exact h

theorem measurePhase_fits (z : OutPos) (t : Time) (h : s.traffic.Fits n) : (measurePhase s z t).traffic.Fits n := by
  obtain ⟨a, b, r, hframe⟩ := measurePhase_frame s z t
  rw [hframe]
  exact h

theorem searchSync_fits (t : Time) (h : s.traffic.Fits n) : (searchSync t s).traffic.Fits n := by
  unfold searchSync
  split
  · exact h
  · dsimp only
    split
    · split
      · exact changeLock_fits .lineLock (s := s.withRlc _) h
      · exact h
    · exact h

theorem flywheelSync_fits (t : Time) (h : s.traffic.Fits n) : (flywheelSync t s).traffic.Fits n := by
  unfold flywheelSync
  split
  · exact h
  · split <;> exact h

theorem windowedSync_fits (t : Time) (h : s.traffic.Fits n) : (windowedSync t s).traffic.Fits n := by
  unfold windowedSync
  dsimp only
  split
  · split
    · exact measurePhase_fits _ t (s := s.withRlc _) h
    · exact h
  · exact h

theorem lineSync_fits (input : Input) (t : Time) (h : s.traffic.Fits n) : (lineSync input t s).traffic.Fits n := by
  unfold lineSync
  split
  · split
    · exact searchSync_fits t h
    · exact windowedSync_fits t h
    · exact windowedSync_fits t h
    · exact flywheelSync_fits t h
  · exact h

theorem passFlywheelLine_fits (h : s.traffic.Fits n) : (passFlywheelLine s).traffic.Fits n := by
  unfold passFlywheelLine
  split <;> exact h

/-! ## Boundaries and hard aligns (08 R158, R166) -/

/-- A boundary answers a waiting SYNC and leaves a LIST as it is (09 R181). -/
theorem Job.takeFigures_list {j : Job} {l : ListJob} {f : FieldNo} {a b : Nat} (h : j.takeFigures f a b = .list l) : j = .list l := by
  unfold Job.takeFigures at h
  split at h
  · cases h
  · cases h
  · cases h
  · exact h

/-- The occurrences of a boundary: those of a share settled before it, of the Field Clock, then of the table (log 36). -/
theorem takeBoundary_att (s : State) : (takeBoundary s).att =
    (clockBoundary (settleShare s)).att.occurAll (tableBoundary (s.clock.counter + 1) s.scenes s.table).notices := by
  rw [takeBoundary_eq]

/-- A boundary empties the queue and leaves both FIFOs (02 R60; 09 R181). -/
theorem takeBoundary_fits (h : s.traffic.Fits n) : (takeBoundary s).traffic.Fits n := by
  have hclock := clockBoundary_fits (settleShare_fits h)
  have hlatches : (takeBoundary s).att.Latched := by
    rw [takeBoundary_att]
    exact hclock.latches.occurAll _
  unfold State.traffic
  rw [takeBoundary_port, takeBoundary_table]
  exact ⟨h.requests, h.replies, Nat.zero_le 16, fun j hj => h.list j (Job.takeFigures_list hj), hlatches⟩

theorem hardAlign_fits (cause : AlignCause) (t : Time) (h : s.traffic.Fits n) : (hardAlign s cause t).traffic.Fits n := by
  have haligned : ∀ r k, ((s.withRaster r).withKeyer k).traffic.Fits n := fun _ _ => h
  exact raise_fits _ (takeBoundary_fits (haligned _ _))

theorem entryDecision_fits (t : Time) (h : s.traffic.Fits n) : (entryDecision s t).traffic.Fits n := by
  unfold entryDecision entrySteer
  split
  · split
    · dsimp only
      split
      · exact h
      · split
        · exact hardAlign_fits _ t (s := s.withRlc _) h
        · exact h
    · exact hardAlign_fits _ t h
  · exact h

theorem enterFrameLock_fits (pat : Pattern) (t : Time) (h : s.traffic.Fits n) : (enterFrameLock s pat t).traffic.Fits n :=
  entryDecision_fits t (changeLock_fits .frameLock (s := s.withRlc _) h)

theorem takeLineStart_fits (h : s.traffic.Fits n) : (takeLineStart s).traffic.Fits n := raiseAll_fits _ h

theorem nextLineStart_fits (h : s.traffic.Fits n) : (nextLineStart s).traffic.Fits n := by
  unfold nextLineStart moveToLineStart
  split
  · exact hardAlign_fits _ _ h
  · refine takeLineStart_fits ?_
    split
    · exact h
    · split
      · exact takeBoundary_fits h
      · exact h

/-! ## Field syncs (07 R139 to R146) -/

theorem pairSync_fits (pat : Pattern) (t : Time) (h : s.traffic.Fits n) : (pairSync pat t s).traffic.Fits n := by
  unfold pairSync judgePair
  dsimp only
  split
  · exact h
  · split
    · exact enterFrameLock_fits pat t (s := s.withRlc _) h
    · exact addFaults_fits _ (s := s.withRlc _) h

theorem frameSync_fits (pat : Pattern) (t : Time) (h : s.traffic.Fits n) : (frameSync pat t s).traffic.Fits n := by
  unfold frameSync checkField
  dsimp only
  split
  · split
    · exact dropToLineLock_fits _ (addFaults_fits _ (s := s.withRlc _) h)
    · exact addFaults_fits _ (s := s.withRlc _) h
  · exact h

theorem flywheelFieldSync_fits (pat : Pattern) (t : Time) (h : s.traffic.Fits n) : (flywheelFieldSync pat t s).traffic.Fits n := by
  unfold flywheelFieldSync confirm
  split
  · dsimp only
    split
    · exact enterFrameLock_fits pat t (s := s.withRlc _) h
    · exact changeLock_fits .lineLock (s := State.withRlc (addFaults _ _) _) (addFaults_fits _ (s := s.withRlc _) h)
  · exact h

theorem fieldSync_fits (input : Input) (pat : Pattern) (t : Time) (h : s.traffic.Fits n) :
    (fieldSync input pat t s).traffic.Fits n := by
  unfold fieldSync
  split
  · split
    · exact h
    · exact pairSync_fits pat t h
    · exact frameSync_fits pat t h
    · exact flywheelFieldSync_fits pat t h
  · exact h

/-! ## The port's own commands (09 R172 to R185; 10 R190) -/

theorem portControl_fits (ctl : Byte) (h : s.traffic.Fits 0) : (portControl ctl s).traffic.Fits 0 := by
  unfold portControl
  split
  · exact ⟨Nat.zero_le 64, Nat.zero_le 64, Nat.zero_le 16, nofun, latches_powerOn⟩
  · split
    · exact { h with requests := Nat.zero_le 64, replies := Nat.zero_le 64, list := nofun }
    · exact h

/-- A byte joins a request FIFO of fewer than 64 bytes (09 R174, R176). -/
theorem writeRequestByte_fits (b : Byte) (h : s.traffic.Fits 0) : (writeRequestByte b s).traffic.Fits 0 := by
  unfold writeRequestByte
  split
  · exact h
  · split
    · exact raise_fits .portOverrun (s := s.withPort _) { h with }
    · rename_i hroom
      have hlength : (s.port.requests ++ [b]).length ≤ 64 := by
        rw [List.length_append]
        exact Nat.lt_of_not_le hroom
      exact { h with requests := hlength }

theorem readReplyByte_fits (h : s.traffic.Fits 0) : (readReplyByte s).traffic.Fits 0 := by
  unfold readReplyByte
  split
  · exact { h with }
  · rename_i b rest hreplies
    have hlength : rest.length + 1 ≤ 64 := by
      rw [← List.length_cons (a := b), ← hreplies]
      exact h.replies
    exact { h with replies := Nat.le_of_lt hlength }

theorem clearCauses_fits (loc : BitVec 2) (bits : Byte) (h : s.traffic.Fits 0) : (clearCauses loc bits s).traffic.Fits 0 := by
  unfold clearCauses
  split
  · exact withAtt_fits h (h.latches.clearBits _)
  · split
    · exact withAtt_fits h (h.latches.clearBits _)
    · exact h

/-- Bytes of a request leave the FIFO. -/
theorem consume_fits (k : Nat) (h : s.traffic.Fits n) : (consume s k).traffic.Fits n := by
  have hlength : (s.port.requests.drop k).length ≤ 64 := by
    rw [List.length_drop]
    exact Nat.le_trans (Nat.sub_le _ _) h.requests
  exact { h with requests := hlength }

/-- A port that may begin an execution has the bytes of its largest reply free (09 R177). -/
theorem fits_of_ready (h : s.traffic.Fits 0) (hready : s.port.ready n = true) : s.traffic.Fits n :=
  fits_of_room h ((s.port.ready_iff n).mp hready).2

theorem refuseUnknown_fits (h : s.traffic.Fits 0) : (refuseUnknown s).traffic.Fits 0 := by
  unfold refuseUnknown
  split
  · exact h
  · split
    · rename_i hready
      exact reply_fits _ (consume_fits _ (fits_of_ready h hready.2)) (Nat.le_refl 2)
    · exact h

theorem refuseUnframeable_fits (h : s.traffic.Fits 0) : (refuseUnframeable s).traffic.Fits 0 := by
  unfold refuseUnframeable
  split
  · rename_i hready
    exact reply_fits _ (consume_fits _ (fits_of_ready h hready.2)) (Nat.le_refl 2)
  · exact h

/-! ## LIST and SYNC in progress (01 R27 to R29; 09 R182) -/

/-- A LIST in its bounds takes the place of the request in progress. -/
theorem withJob_fits {l : ListJob} (h : s.traffic.Fits n) (hl : l.cursor ≤ 32 ∧ l.items ≤ l.cursor) :
    (s.withPort { s.port with job := .list l }).traffic.Fits n :=
  { h with list := fun _ hj => by cases hj; exact hl }

/-- The request in progress ends. -/
theorem withIdle_fits (h : s.traffic.Fits n) : (s.withPort { s.port with job := .idle }).traffic.Fits n := { h with list := nofun }

/-- An examination passes one slot and writes at most one item (01 R27, R28). -/
theorem examineSlot_fits {j : ListJob} (i : Slot) (h : s.traffic.Fits 0) (hcursor : j.cursor < 32) (hitems : j.items ≤ j.cursor) :
    (examineSlot j i s).traffic.Fits 0 := by
  unfold examineSlot
  split
  · exact withJob_fits h ⟨hcursor, Nat.le_succ_of_le hitems⟩
  · split
    · rename_i hroom
      exact reply_fits _ (withJob_fits (fits_of_room h hroom) ⟨hcursor, Nat.succ_le_succ hitems⟩) (by rw [plateRecord_length])
    · exact withJob_fits h ⟨Nat.le_of_lt hcursor, hitems⟩

theorem stepList_fits (h : s.traffic.Fits 0) : (stepList s).traffic.Fits 0 := by
  unfold stepList
  split
  · rename_i j hj
    split
    · split
      · exact h
      · exact examineSlot_fits _ h ‹_› (h.list j hj).2
    · exact h
  all_goals exact h

theorem resumeList_fits (h : s.traffic.Fits 0) : (resumeList s).traffic.Fits 0 := by
  unfold resumeList
  split
  · rename_i j hj
    split
    · exact withJob_fits h (h.list j hj)
    · exact h
  all_goals exact h

theorem endList_fits (h : s.traffic.Fits 0) : (endList s).traffic.Fits 0 := by
  unfold endList
  split
  · split
    · rename_i hend
      exact reply_fits _ (withIdle_fits (fits_of_room h hend.2)) (Nat.le_refl 7)
    · exact h
  all_goals exact h

theorem writeReport_fits (h : s.traffic.Fits 0) : (writeReport s).traffic.Fits 0 := by
  unfold writeReport
  split
  · split
    · rename_i hroom
      exact reply_fits _ (withIdle_fits (fits_of_room h hroom)) (Nat.le_refl 9)
    · exact h
  all_goals exact h

/-! ## Requests (09 R177, R178) -/

/-- A request whose execution keeps to its largest reply; every row leaves room for the two bytes of a refusal. -/
theorem withRequest_fits (r : ReqInfo) {k : List Byte → State → State}
    (hk : ∀ ops t, t.traffic.Fits r.largest → (k ops t).traffic.Fits 0) (h : s.traffic.Fits 0)
    (hr : 2 ≤ r.largest := by decide) : (withRequest r k s).traffic.Fits 0 := by
  unfold withRequest
  split
  · exact h
  · split
    · rename_i hready
      have hfree := fits_of_ready h hready.2
      split
      · exact hk _ _ (consume_fits _ hfree)
      · exact reply_fits _ (consume_fits _ hfree) hr
    · exact h

theorem withOperands_fits {ok : Bool} {k : State → State} (h : s.traffic.Fits n) (hk : ok = true → (k s).traffic.Fits 0)
    (hn : 2 ≤ n := by decide) : (withOperands ok k s).traffic.Fits 0 := by
  cases ok
  · exact reply_fits _ h hn
  · exact hk rfl

theorem replyOkTo_fits (h : s.traffic.Fits 2) : (replyOkTo s).traffic.Fits 0 := reply_fits _ h (Nat.le_refl 2)

theorem whenHalted_fits {k : State → State} (h : s.traffic.Fits 2) (hk : (k s).traffic.Fits 0) : (whenHalted k s).traffic.Fits 0 := by
  unfold whenHalted
  split
  · exact hk
  · exact reply_fits _ h (Nat.le_refl 2)

/-! ### The Reference Lock Controller and the Raster Generator -/

theorem selectSource_fits (ops : List Byte) (h : s.traffic.Fits 2) : (selectSource ops s).traffic.Fits 0 := by
  refine withOperands_fits h fun _ => ?_
  split
  · exact replyOkTo_fits h
  · exact replyOkTo_fits (moveForSwitch_fits h)

theorem setStandard_fits (ops : List Byte) (h : s.traffic.Fits 2) : (setStandard ops s).traffic.Fits 0 :=
  withOperands_fits h fun _ => replyOkTo_fits (applySetting_fits h)

theorem setRaster_fits (t : Time) (ops : List Byte) (h : s.traffic.Fits 2) : (setRaster t ops s).traffic.Fits 0 := by
  refine withOperands_fits h fun _ => replyOkTo_fits ?_
  unfold replaceParams
  dsimp only
  split
  · exact hardAlign_fits _ t (s := (s.withRlc _).withRaster _) h
  · exact h

theorem alignNow_fits (t : Time) (h : s.traffic.Fits 2) : (alignNow t s).traffic.Fits 0 := by
  unfold alignNow
  split
  · exact replyOkTo_fits (hardAlign_fits _ t h)
  · exact reply_fits _ h (Nat.le_refl 2)

/-! ### The Field Clock, the Attention Unit and the Cue Sequencer -/

theorem setMark_fits (ops : List Byte) (h : s.traffic.Fits 2) : (setMark ops s).traffic.Fits 0 := by
  refine withOperands_fits h fun _ => replyOkTo_fits ?_
  unfold writeMark
  split <;> exact withAtt_fits h (h.latches.clear _)

/-- READ ATTENTION: the latches of the body have the sizes of their causes (10 R193). -/
theorem readAttention_fits (h : s.traffic.Fits 41) : (readAttention s).traffic.Fits 0 :=
  reply_fits _ h (by rw [body_length ((attentionInvariant_iff s).mpr h.latches)])

/-- READ CUES: the status block and at most 7 entries (04 R83). -/
theorem readCues_fits (ops : List Byte) (h : s.traffic.Fits 38) : (readCues ops s).traffic.Fits 0 := by
  refine withOperands_fits h fun hok => reply_fits _ h ?_
  simp only [readCuesOk, Bool.and_eq_true, decide_eq_true_eq] at hok
  obtain ⟨⟨-, hcount⟩, -⟩ := hok
  have hstatus : (seqStatus s.seq).length = 8 := rfl
  rw [List.length_append, hstatus, entryBytes_length]
  omega

/-! ### The Plate Table -/

theorem postRequest_fits (op : AmendOp) (h : s.traffic.Fits 3) : (postRequest op s).traffic.Fits 0 := by
  unfold postRequest
  split
  · exact reply_fits _ (post_fits _ op h ‹_›) (Nat.le_refl 3)
  · exact reply_fits _ h (Nat.le_succ 2)

theorem posted_fits {ok : Bool} (op : AmendOp) (h : s.traffic.Fits 3) : (withOperands ok (postRequest op) s).traffic.Fits 0 :=
  withOperands_fits h fun _ => postRequest_fits op h

theorem doCue_fits (ops : List Byte) (h : s.traffic.Fits 3) : (doCue ops s).traffic.Fits 0 := by
  refine withOperands_fits h fun _ => ?_
  unfold executeEntry
  split
  · exact reply_fits _ (raiseAll_fits _ h) (Nat.le_succ 2)
  · split
    · exact reply_fits _ (raiseAll_fits _ (post_fits _ _ h ‹_›)) (Nat.le_refl 3)
    · exact reply_fits _ h (Nat.le_succ 2)

theorem recallScene_fits (ops : List Byte) (h : s.traffic.Fits 3) : (recallScene ops s).traffic.Fits 0 := by
  refine withOperands_fits h fun _ => ?_
  split
  · exact postRequest_fits _ h
  · exact reply_fits _ h (Nat.le_succ 2)

/-- QUERY: a plate record and the count of queued amendments that name it (01 R23). -/
theorem query_fits (ops : List Byte) (h : s.traffic.Fits 33) : (query ops s).traffic.Fits 0 := by
  refine withOperands_fits h fun _ => ?_
  unfold answerQuery
  dsimp only
  split
  · rename_i body hbody
    obtain ⟨i, -, hi⟩ := Option.bind_eq_some_iff.mp hbody
    obtain ⟨p, -, rfl⟩ := Option.map_eq_some_iff.mp hi
    exact reply_fits _ h (by rw [List.length_append, plateRecord_length, List.length_singleton])
  · exact reply_fits _ h (show 3 ≤ 33 by decide)

theorem probe_fits (ops : List Byte) (h : s.traffic.Fits 4) : (probe ops s).traffic.Fits 0 := by
  refine withOperands_fits h fun _ => ?_
  unfold answerProbe
  dsimp only
  split
  · exact reply_fits _ h (show 2 ≤ 4 by decide)
  · exact reply_fits _ h (Nat.le_refl 4)

theorem beginList_fits (ops : List Byte) (h : s.traffic.Fits 2) : (beginList ops s).traffic.Fits 0 :=
  withOperands_fits h fun _ => withJob_fits (h.mono (Nat.zero_le 2)) ⟨Nat.zero_le 32, Nat.le_refl 0⟩

/-! ## Every command -/

/-- Every command keeps the sizes and the latches. -/
theorem exec_fits (i : Instr) (h : s.traffic.Fits 0) : ∃ t, exec i s = .next t ∧ t.traffic.Fits 0 := by
  cases i with
  | powerOnReset => exact ⟨_, execPowerOnReset_eq s, (traffic_fits_iff State.reset).mpr ⟨sizes_powerOn, latches_powerOn⟩⟩
  | requestByteWrite b => exact ⟨_, rfl, writeRequestByte_fits b h⟩
  | replyByteRead => exact ⟨_, rfl, readReplyByte_fits h⟩
  | abort ctl | softReset ctl => exact ⟨_, rfl, portControl_fits ctl h⟩
  | attentionClear loc bits => exact ⟨_, rfl, clearCauses_fits loc bits h⟩
  | unknownRequest => exact ⟨_, rfl, refuseUnknown_fits h⟩
  | unframeableRequest => exact ⟨_, rfl, refuseUnframeable_fits h⟩
  | selectSource => exact ⟨_, rfl, withRequest_fits _ (fun ops _ => selectSource_fits ops) h⟩
  | setStandard => exact ⟨_, rfl, withRequest_fits _ (fun ops _ => setStandard_fits ops) h⟩
  | setRaster t => exact ⟨_, rfl, withRequest_fits _ (fun ops _ => setRaster_fits t ops) h⟩
  | alignNow t => exact ⟨_, rfl, withRequest_fits _ (fun _ _ => alignNow_fits t) h⟩
  | readTiming => exact ⟨_, rfl, withRequest_fits _ (fun _ _ ht => reply_fits _ ht (Nat.le_refl 19)) h⟩
  | setFieldCount | halt => exact ⟨_, rfl, withRequest_fits _ (fun _ _ ht => replyOkTo_fits ht) h⟩
  | setMark => exact ⟨_, rfl, withRequest_fits _ (fun ops _ => setMark_fits ops) h⟩
  | setProfile | setInput | setInterval | setCounter | setLevels | setKeying | clearScene =>
    exact ⟨_, rfl, withRequest_fits _ (fun _ _ ht => withOperands_fits ht fun _ => replyOkTo_fits ht) h⟩
  | readCounters => exact ⟨_, rfl, withRequest_fits _ (fun _ _ ht => reply_fits _ ht (Nat.le_refl 10)) h⟩
  | place | amend | showPlate | close | drop | groupClose | groupMove | setPinned =>
    exact ⟨_, rfl, withRequest_fits _ (fun _ _ => posted_fits _) h⟩
  | query => exact ⟨_, rfl, withRequest_fits _ (fun ops _ => query_fits ops) h⟩
  | probe => exact ⟨_, rfl, withRequest_fits _ (fun ops _ => probe_fits ops) h⟩
  | list => exact ⟨_, rfl, withRequest_fits _ (fun ops _ => beginList_fits ops) h⟩
  | listSlotExamine => exact ⟨_, rfl, stepList_fits h⟩
  | listResume => exact ⟨_, rfl, resumeList_fits h⟩
  | listEnd => exact ⟨_, rfl, endList_fits h⟩
  | writeCues | setSequencer | start =>
    exact ⟨_, rfl, withRequest_fits _ (fun _ _ ht => withOperands_fits ht fun _ => whenHalted_fits ht (replyOkTo_fits ht)) h⟩
  | readCues => exact ⟨_, rfl, withRequest_fits _ (fun ops _ => readCues_fits ops) h⟩
  | step => exact ⟨_, rfl, withRequest_fits _ (fun _ _ ht => replyOkTo_fits (trigger_fits ht)) h⟩
  | doCue => exact ⟨_, rfl, withRequest_fits _ (fun ops _ => doCue_fits ops) h⟩
  | saveScene =>
    exact ⟨_, rfl, withRequest_fits _ (fun _ _ ht => withOperands_fits ht fun _ => reply_fits _ ht (Nat.le_refl 8)) h⟩
  | recallScene => exact ⟨_, rfl, withRequest_fits _ (fun ops _ => recallScene_fits ops) h⟩
  | readScenes =>
    exact ⟨_, rfl, withRequest_fits _ (fun _ t ht => by rw [readScenes_eq]; exact reply_fits _ ht (Nat.le_refl 26)) h⟩
  | sync => exact ⟨_, rfl, withRequest_fits _ (fun _ _ ht => { ht.mono (Nat.zero_le 2) with list := nofun }) h⟩
  | fieldReport => exact ⟨_, rfl, writeReport_fits h⟩
  | setEnables =>
    exact ⟨_, rfl, withRequest_fits _ (fun _ _ ht => replyOkTo_fits (withAtt_fits ht (ht.latches.setEnables _))) h⟩
  | readAttention => exact ⟨_, rfl, withRequest_fits _ (fun _ _ => readAttention_fits) h⟩
  | cueInEdge => exact ⟨_, rfl, triggerIf_fits (s := hand s _) h⟩
  | cueExecution => exact ⟨_, rfl, by split; exacts [executeCue_fits h, h]⟩
  | stallResumption => exact ⟨_, rfl, by split; exacts [executeCue_fits (s := s.withSeq _) h, h]⟩
  | delayExpiry => exact ⟨_, rfl, by split <;> exact h⟩
  | fieldBoundary => exact ⟨_, rfl, by split; exacts [takeBoundary_fits h, h]⟩
  | intervalExpiry => exact ⟨_, rfl, by split; exacts [h, triggerIf_fits (s := s.withSeq _) h]⟩
  | countDone => exact ⟨_, rfl, by split; exacts [counterDone_fits (s := s.withClock _) h, h]⟩
  | haltOnCount => exact ⟨_, rfl, by split <;> exact h⟩
  | holdoverExpiry => exact ⟨_, rfl, settleShare_fits h⟩
  | slewTimeout => exact ⟨_, rfl, by split; exacts [hardAlign_fits _ _ h, h]⟩
  | lineStart => exact ⟨_, rfl, nextLineStart_fits (s := settleSegments _) (settleMark_fits h)⟩
  | segmentEnd | holdDecaySegment => exact ⟨_, rfl, by split <;> exact h⟩
  | lineSync input t => exact ⟨_, rfl, lineSync_fits input t h⟩
  | lineWindowClose => exact ⟨_, rfl, by split; exacts [closeWindow_fits h, h]⟩
  | fieldSync input pat t => exact ⟨_, rfl, fieldSync_fits input pat t h⟩
  | flywheelPredictedLine => exact ⟨_, rfl, passFlywheelLine_fits h⟩

end

/-- Settles O58: the invariants are the sizes with nothing reserved, and every command keeps them. -/
theorem stepsKeepTheSizes : Obligations.StepsKeepTheSizes := by
  intro s t hsize hlatch hstep
  have hs : s.traffic.Fits 0 := (traffic_fits_iff s).mpr ⟨hsize, hlatch⟩
  refine (traffic_fits_iff t).mp ?_
  unfold step at hstep
  split at hstep
  · cases hstep
    exact hs
  · rename_i c rest _
    have hrest : (s.withPending rest).traffic.Fits 0 := hs
    obtain ⟨u, hu, hfits⟩ := exec_fits c hrest
    rw [hu] at hstep
    cases hstep
    exact hfits

end Sys2Proof.Machine
end

section
/-! PROOFS. The Request Port: the status byte and the pending bytes, port control writes, the conditions under which a request begins and
its refusals of form, SYNC (09 R172 to R185; 10 R192). -/

namespace Sys2Proof.Machine

/-! ## The status byte and the pending bytes (09 R172, R173) -/

/-- The conditions of the port status byte, bit 0 first (09 R173). -/
def State.statusBits (s : State) : List Bool :=
  [s.port.job.busy, !s.port.replies.isEmpty, decide (s.port.requests.length ≤ 32), s.port.rejecting, s.att.int]

/-- At least 32 bytes of the request FIFO are free while it holds at most 32. -/
theorem roomBytes_iff (n : Nat) : Config.roomBytes ≤ Config.requestFifoSize - n ↔ n ≤ 32 := by
  show 32 ≤ 64 - n ↔ n ≤ 32
  omega

theorem statusByte_eq (s : State) : s.statusByte = byteOf (Nat.ofBits s.statusBits.get) := by
  have hsum := sum_bitVal s.statusBits 0
  simp only [State.statusBits, List.mapIdx_cons, List.mapIdx_nil, List.sum_cons, List.sum_nil] at hsum
  rw [State.statusByte, decide_eq_decide.mpr (roomBytes_iff _)]
  exact congrArg byteOf (by simpa [Nat.add_assoc, State.statusBits] using hsum)

/-- Bit k of the status byte is the condition at place k, and none beyond the five. -/
theorem statusByte_getLsbD (s : State) (k : Nat) : s.statusByte.getLsbD k = s.statusBits.getD k false := by
  rw [statusByte_eq]
  exact holdsBits_ofBits (bits := s.statusBits) (show 5 ≤ 8 by decide) k

theorem Job.busy_iff (j : Job) : j.busy = true ↔ j ≠ .idle := by cases j <;> simp [Job.busy]

/-- The pending byte of location 2 holds causes 0 to 7 (09 R172). -/
theorem location2_getLsbD (s : State) {c : Cause} (h : c.number < 8) : s.location2.getLsbD c.number = (s.att.get c).pending := by
  rw [State.location2, byteOf, BitVec.getLsbD_ofNat, Attention.testBit_bits, decide_eq_true h, Bool.true_and]

/-- The pending byte of location 3 holds causes 8 to 15 (09 R172). -/
theorem location3_getLsbD (s : State) {c : Cause} (h : 8 ≤ c.number) :
    s.location3.getLsbD (c.number - 8) = (s.att.get c).pending := by
  have hlt : c.number - 8 < 8 := by
    have : c.number < 16 := c.number_lt
    omega
  have hdiv : s.att.bits (·.pending) / 256 = s.att.bits (·.pending) >>> 8 := (Nat.shiftRight_eq_div_pow _ 8).symm
  rw [State.location3, byteOf, BitVec.getLsbD_ofNat, hdiv, Nat.testBit_shiftRight, Nat.add_sub_cancel' h, Attention.testBit_bits,
    decide_eq_true hlt, Bool.true_and]

/-- Settles O11: INT by its law, the status byte bit by bit, the pending bytes by cause. -/
theorem intFollowsPendingAndEnabled : Obligations.IntFollowsPendingAndEnabled := by
  intro s
  refine ⟨s.att.int_iff, ?_, ?_, ?_, ?_, ?_, fun k hk => ?_, fun c => ⟨location2_getLsbD s, location3_getLsbD s⟩⟩ <;>
    rw [statusByte_getLsbD]
  · exact s.port.job.busy_iff
  · simp [State.statusBits]
  · exact decide_eq_true_iff
  · exact Iff.rfl
  · exact Iff.rfl
  · exact List.getD_eq_default _ _ hk

/-! ## Port control (09 R183 to R185) -/

theorem exec_abort (ctl : Byte) (s : State) : exec (.abort ctl) s = .next (portControl ctl s) := rfl
theorem exec_softReset (ctl : Byte) (s : State) : exec (.softReset ctl) s = .next (portControl ctl s) := rfl

/-- A port control write depends on bits 0 and 1 alone (09 R185). -/
theorem portControl_congr {c d : Byte} (h0 : c.getLsbD 0 = d.getLsbD 0) (h1 : c.getLsbD 1 = d.getLsbD 1) (s : State) :
    portControl c s = portControl d s := by
  unfold portControl
  rw [h0, h1]

/-- An emptied port stays as it is under ABORT (09 R185). -/
theorem abortPort_of_aborted {s : State} {p : Port} (h : s.port = p.aborted) : abortPort s = s := by
  have hport : s.port.aborted = s.port := by rw [h]; rfl
  rw [abortPort, hport]
  rfl

/-- Settles O5: a write with bit 0 alone is ABORT. -/
theorem abortDiscardsPortTraffic : Obligations.AbortDiscardsPortTraffic := by
  intro s ctl h0 h1
  rw [exec_abort, portControl_abort h0 h1]
  rfl

/-- Settles O4: a write with bit 1 is SOFT RESET, and the attention unit after it is that of a power-on. -/
theorem softResetClearsDynamicState : Obligations.SoftResetClearsDynamicState := by
  intro s ctl h1
  refine ⟨Attention.reset, attention_powerOn, ?_⟩
  rw [exec_softReset, portControl_softReset h1]
  rfl

/-- Settles O6: the two bits decide, and after either command the port is empty, so that an ABORT finds nothing to discard. -/
theorem portControlReadsTwoBits : Obligations.PortControlReadsTwoBits := by
  refine ⟨fun s ctl h0 h1 => ?none, fun s c d h0 h1 => ?same, fun s t c d hc0 hc1 hd0 hd1 e => ?twice,
    fun s t c d hc1 hd0 hd1 e => ?afterReset⟩
  case none =>
    rw [exec_abort, exec_softReset, portControl_none h0 h1]
    exact ⟨rfl, rfl⟩
  case same =>
    rw [exec_abort, exec_abort, exec_softReset, exec_softReset, portControl_congr h0 h1]
    exact ⟨rfl, rfl⟩
  case twice =>
    rw [exec_abort, portControl_abort hc0 hc1] at e
    cases e
    rw [exec_abort, portControl_abort hd0 hd1, abortPort_of_aborted (p := s.port) rfl]
  case afterReset =>
    rw [exec_softReset, portControl_softReset hc1] at e
    cases e
    rw [exec_abort, portControl_abort hd0 hd1, abortPort_of_aborted (p := s.port) rfl]

/-! ## Requests that wait (09 R174, R177) -/

/-- A complete request stands at the head as its code, its length and its operand bytes (09 R174). -/
theorem framed_eq_some {bytes ops : List Byte} {c : Byte} (h : framed bytes = some (c, ops)) :
    ops.length ≤ 30 ∧ ∃ rest, bytes = c :: byteOf ops.length :: (ops ++ rest) := by
  unfold framed at h
  split at h
  · rename_i b n tail
    split at h
    · rename_i hn
      obtain ⟨hmax, hall⟩ := hn
      cases h
      have hlength : (tail.take n.toNat).length = n.toNat := List.length_take_of_le hall
      have hbyte : byteOf n.toNat = n := BitVec.ofNat_toNat 8 n
      rw [hlength, hbyte]
      exact ⟨hmax, tail.drop n.toNat, by rw [List.take_append_drop]⟩
    · cases h
  · cases h

/-- Settles O13: each of the three conditions keeps a request from beginning. -/
theorem requestsWaitForTheirConditions : Obligations.RequestsWaitForTheirConditions := by
  intro i r s hr hwait
  obtain ⟨k, hexec, htwo, -⟩ := request_exec i r hr
  rw [hexec, withRequest_waits r k s]
  rintro c ops hf ⟨rfl, hready⟩
  obtain ⟨hidle, hroom⟩ := (s.port.ready_iff _).mp hready
  rcases hwait with hincomplete | hbusy | hfull
  · obtain ⟨hlength, rest, hbytes⟩ := framed_eq_some hf
    exact absurd (hincomplete ops rest hbytes) (Nat.not_lt.mpr hlength)
  · exact hbusy hidle
  · exact absurd ((room_iff s.port (Nat.le_of_succ_le htwo)).mp hroom) (Nat.not_le.mpr hfull)

/-! ## Refusals of form (09 R175, R178) -/

theorem knownCode_eq_false {c : Byte} (h : ∀ r ∈ requestTable, r.code ≠ c) : knownCode c = false :=
  List.any_eq_false.mpr fun r hr hc => h r hr (eq_of_beq hc)

/-- An idle port with n bytes free may begin an execution whose largest reply is n. -/
theorem ready_of_room {p : Port} {n : Nat} (hidle : p.job = .idle) (hroom : p.replies.length + n ≤ 64) : p.ready n = true :=
  (p.ready_iff n).mpr ⟨hidle, Nat.le_sub_of_add_le (by rwa [Nat.add_comm])⟩

/-- A complete request of an unknown code is answered BAD REQUEST (09 R178). -/
theorem refuseUnknown_refuses {s : State} {c : Byte} {ops rest : List Byte} (hc : knownCode c = false) (h30 : ops.length ≤ 30)
    (h : RequestReady s c 2 ops rest) : refuseUnknown s = answered s rest 0x80#8 [] := by
  have hconsume := consume_head h
  obtain ⟨hbytes, hidle, hroom⟩ := h
  simp only [refuseUnknown, hbytes, framed_head c ops rest h30, hc, ready_of_room hidle hroom, and_self, if_true, hconsume]
  rfl

/-- A length byte above 30 at the head is consumed with its code and answered BAD LENGTH (09 R175). -/
theorem refuseUnframeable_refuses {s : State} {c n : Byte} {rest : List Byte} (hbytes : s.port.requests = c :: n :: rest)
    (hn : 30 < n.toNat) (hidle : s.port.job = .idle) (hroom : s.port.replies.length + 2 ≤ 64) :
    refuseUnframeable s = answered s rest 0x81#8 [] := by
  have hhead : unframeable s.port.requests = true := by
    rw [hbytes]
    exact decide_eq_true hn
  rw [refuseUnframeable, if_pos ⟨hhead, ready_of_room hidle hroom⟩, consume, hbytes]
  rfl

/-- Settles O12: the refusals of code and length by their lemmas, BAD OPERAND by what each request makes of operands that fail. -/
theorem refusedRequestsChangeNothing : Obligations.RefusedRequestsChangeNothing := by
  refine ⟨fun s rest => ⟨fun c ops hc h30 h => ?code, fun c n hbytes hn hidle hroom => ?framing⟩, fun i r s ops rest hr h30 h => ?_⟩
  case code => exact congrArg Host.Outcome.next (refuseUnknown_refuses (knownCode_eq_false hc) h30 h)
  case framing => exact congrArg Host.Outcome.next (refuseUnframeable_refuses hbytes hn hidle hroom)
  obtain ⟨k, hexec, -, hoperands⟩ := request_exec i r hr
  refine ⟨fun hlength => ?length, fun hlength hbad => ?operands⟩
  case length => rw [hexec, withRequest_badLength r k h h30 hlength]; rfl
  case operands => rw [hexec, withRequest_ready r k h h30 hlength, hoperands ops rest s hlength hbad]; rfl

/-! ## SYNC (09 R181, R182) -/

/-- A boundary's figures are reported when 9 bytes are free (09 R182). -/
theorem writeReport_reports {s : State} {g : SyncFigures} (hjob : s.port.job = .sync (some g))
    (hroom : s.port.replies.length + 9 ≤ 64) :
    writeReport s = reply (s.withPort { s.port with job := .idle }) replyFieldReport (reportBody g s.table.queue.length) := by
  simp only [writeReport, hjob, (room_iff s.port (n := 9) (by decide)).mpr hroom, if_true]

/-- A SYNC without figures waits (09 R181). -/
theorem writeReport_waits {s : State} (hjob : s.port.job = .sync none) : writeReport s = s := by
  simp only [writeReport, hjob]

/-- Settles O24: SYNC takes no operand, and FIELD REPORT acts by the figures. -/
theorem syncIsAnsweredByAFieldReport : Obligations.SyncIsAnsweredByAFieldReport := by
  refine fun s => ⟨fun rest h => ?begins, fun g hjob hroom => congrArg Host.Outcome.next (writeReport_reports hjob hroom),
    fun hjob => congrArg Host.Outcome.next (writeReport_waits hjob)⟩
  case begins =>
    exact congrArg Host.Outcome.next
      (withRequest_ready reqSync (fun _ => beginSync) h (Nat.zero_le 30) (List.mem_singleton.mpr rfl))

end Sys2Proof.Machine
end

section
/-! PROOFS. Clearing writes to the Attention Unit, and the requests SET ENABLES, SET LEVELS and SET KEYING (03 R67, R76; 10 R190,
R191). -/

namespace Sys2Proof.Machine

/-! ## Sixteen causes named by two bytes (09 R172, R187) -/

/-- A byte as the 16-bit number of location 2 has the bits of causes 0 to 7 alone. -/
theorem testBit_lowByte_iff (b : Byte) (n : Nat) : b.toNat.testBit n = true ↔ n < 8 ∧ b.getLsbD n = true := by
  rw [BitVec.testBit_toNat]
  exact ⟨fun h => ⟨BitVec.lt_of_getLsbD h, h⟩, And.right⟩

/-- A byte as the upper half of a 16-bit number, that of location 3, has the bits of causes 8 to 15 alone. -/
theorem testBit_highByte_iff (b : Byte) (n : Nat) :
    (b.toNat * 256).testBit n = true ↔ 8 ≤ n ∧ b.getLsbD (n - 8) = true := by
  rw [show 256 = 2 ^ 8 from rfl, Nat.testBit_mul_two_pow, BitVec.testBit_toNat, Bool.and_eq_true_iff, decide_eq_true_iff]

/-- Two operand bytes give bits 0 to 7 and bits 8 to 15 of their number (09 R187). -/
theorem testBit_op16 (b c : Byte) (n : Nat) :
    (op16 [b, c] 0).testBit n = if n < 8 then b.getLsbD n else c.getLsbD (n - 8) := by
  rw [op16_eq_bytes, BitVec.testBit_toNat, BitVec.getLsbD_append]
  rfl

/-! ## Clearing writes (10 R190) -/

theorem exec_attentionClear (loc : BitVec 2) (bits : Byte) (s : State) :
    exec (.attentionClear loc bits) s = .next (clearCauses loc bits s) := rfl

theorem clearCauses_low (bits : Byte) (s : State) : clearCauses 2#2 bits s = s.withAtt (s.att.clearBits bits.toNat) := rfl

theorem clearCauses_high (bits : Byte) (s : State) :
    clearCauses 3#2 bits s = s.withAtt (s.att.clearBits (bits.toNat * 256)) := rfl

/-- A clearing write touches the Attention Unit alone (10 R190). -/
theorem clearCauses_frame (loc : BitVec 2) (bits : Byte) (s : State) :
    clearCauses loc bits s = { s with att := (clearCauses loc bits s).att } := by
  unfold clearCauses
  split
  case isTrue => rfl
  case isFalse => split <;> rfl

/-- A write to location 2 clears each of causes 0 to 7 whose bit is 1 (10 R190). -/
theorem clearCauses_low_get (bits : Byte) (s : State) (c : Cause) :
    (clearCauses 2#2 bits s).att.get c =
      if c.number < 8 ∧ bits.getLsbD c.number = true then (s.att.get c).cleared else s.att.get c := by
  rw [clearCauses_low, State.withAtt_att, Attention.get_clearBits]
  exact if_congr (testBit_lowByte_iff bits c.number) rfl rfl

/-- A write to location 3 clears each of causes 8 to 15 whose bit is 1 (10 R190). -/
theorem clearCauses_high_get (bits : Byte) (s : State) (c : Cause) :
    (clearCauses 3#2 bits s).att.get c =
      if 8 ≤ c.number ∧ bits.getLsbD (c.number - 8) = true then (s.att.get c).cleared else s.att.get c := by
  rw [clearCauses_high, State.withAtt_att, Attention.get_clearBits]
  exact if_congr (testBit_highByte_iff bits c.number) rfl rfl

/-- Settles O9: each of the two locations by the half of the causes that its byte names. -/
theorem clearingWritesClearNamedCauses : Obligations.ClearingWritesClearNamedCauses := by
  intro s loc bits hloc
  refine ⟨_, exec_attentionClear loc bits s, clearCauses_frame loc bits s, fun c => ?_⟩
  rcases hloc with rfl | rfl
  case inl =>
    rw [clearCauses_low_get]
    exact if_congr (by simp) rfl rfl
  case inr =>
    rw [clearCauses_high_get]
    exact if_congr (by simp) rfl rfl

/-! ## Requests that write the enables and the Keyer's settings (03 R67, R76; 10 R191) -/

/-- The level of a colour index is the operand byte at its place (03 R67). -/
theorem get_levelsOf (ops : List Byte) (i : Fin 16) : (levelsOf ops).get i = (ops.getD i.val 0).toNat := by
  simp [levelsOf, Vector.get_eq_getElem, op8, opByte]

section
variable {s : State} {rest : List Byte}

theorem execSetEnables_ready {b c : Byte} (h : RequestReady s 0x61#8 2 [b, c] rest) :
    exec .setEnables s = .next { answered s rest 0x00#8 [] with att := s.att.setEnables (op16 [b, c] 0) } := by
  refine congrArg Host.Outcome.next ?_
  rw [withRequest_ready reqSetEnables setEnables h (by simp) (by simp [reqSetEnables])]
  rfl

theorem execSetLevels_ready {ops : List Byte} (hlength : ops.length = 16) (hlevels : ∀ b ∈ ops, b.toNat ≤ 4)
    (h : RequestReady s 0x30#8 2 ops rest) :
    exec .setLevels s = .next { answered s rest 0x00#8 [] with keyer := { s.keyer with pendingLevels := levelsOf ops } } := by
  have hok : (ops.all fun b => decide (b.toNat ≤ 4)) = true := List.all_eq_true.mpr fun b hb => decide_eq_true (hlevels b hb)
  refine congrArg Host.Outcome.next ?_
  rw [withRequest_accepted reqSetLevels (k := setLevels) rfl hok h (by simp [hlength]) (by simp [reqSetLevels, hlength])]
  rfl

theorem execSetKeying_ready {b : Byte} (hb : b.toNat ≤ 2) (h : RequestReady s 0x31#8 2 [b] rest) :
    exec .setKeying s = .next { answered s rest 0x00#8 [] with keyer := { s.keyer with fallback := fallbackOf b.toNat } } := by
  refine congrArg Host.Outcome.next ?_
  rw [withRequest_accepted reqSetKeying (k := setKeying) (ops := [b]) rfl (decide_eq_true hb) h (by simp)
    (by simp [reqSetKeying])]
  rfl

end

/-- Settles O16: each request by the register that its bytes write. -/
theorem enableAndKeyerRequestsWriteTheirRegisters : Obligations.EnableAndKeyerRequestsWriteTheirRegisters := by
  refine ⟨fun s b c rest h => ?enables, fun s rest => ⟨fun ops hlength hlevels h => ?levels, fun b m hmode h => ?keying⟩⟩
  case enables =>
    refine ⟨_, execSetEnables_ready h, fun k => ?_⟩
    rw [Attention.get_setEnables, testBit_op16]
  case levels => exact ⟨levelsOf ops, get_levelsOf ops, execSetLevels_ready hlength hlevels h⟩
  case keying =>
    rcases hmode with ⟨rfl, rfl⟩ | ⟨rfl, rfl⟩ | ⟨rfl, rfl⟩ <;> exact execSetKeying_ready (by decide) h

end Sys2Proof.Machine
end

section
/-! PROOFS. The queue of commands, the two FIFOs of the Request Port byte by byte, and the occurrences of the Attention Unit (09 R172,
R174, R176; 10 R188). -/

namespace Sys2Proof.Machine

/-! ## The queue of commands (log 3) -/

/-- The command at the front of the queue leaves it before it runs. -/
theorem step_of_waiting {s : State} {c : Instr} {rest : List Instr} (h : s.pending = c :: rest) :
    step s = exec c (s.withPending rest) := by
  rw [step, h]

/-- With no command waiting the block idles (log 3). -/
theorem step_of_idle {s : State} (h : s.pending = []) : step s = .next s := by
  rw [step, h]

/-- Settles O1: the two forms of the queue, a command at its front and none. -/
theorem stepTakesFrontCommand : Obligations.StepTakesFrontCommand :=
  ⟨fun c rest s => step_of_waiting (s := { s with pending := c :: rest }) rfl, fun _ h => step_of_idle h⟩

/-! ## Bytes written to location 0 (09 R174, R176) -/

theorem exec_requestByteWrite (b : Byte) (s : State) : exec (.requestByteWrite b) s = .next (writeRequestByte b s) := rfl

section
variable {s : State}

/-- While REJECTING is set a byte is discarded in silence (09 R176). -/
theorem writeRequestByte_rejecting (b : Byte) (h : s.port.rejecting = true) : writeRequestByte b s = s := by
  rw [writeRequestByte, if_pos h]

/-- A byte that finds the request FIFO full sets REJECTING and PORT OVERRUN (09 R176). -/
theorem writeRequestByte_full (b : Byte) (h : s.port.rejecting = false) (hfull : 64 ≤ s.port.requests.length) :
    writeRequestByte b s = raise (s.withPort { s.port with rejecting := true }) .portOverrun := by
  have hsize : Config.requestFifoSize ≤ s.port.requests.length := hfull
  rw [writeRequestByte, if_neg (ne_true_of_eq_false h), if_pos hsize]

/-- A byte that finds room joins the end of the request FIFO (09 R174). -/
theorem writeRequestByte_room (b : Byte) (h : s.port.rejecting = false) (hroom : s.port.requests.length < 64) :
    writeRequestByte b s = s.withPort { s.port with requests := s.port.requests ++ [b] } := by
  have hsize : ¬ Config.requestFifoSize ≤ s.port.requests.length := Nat.not_le_of_lt hroom
  rw [writeRequestByte, if_neg (ne_true_of_eq_false h), if_neg hsize]

end

/-- Settles O7: REJECTING and the number of bytes held decide between the three outcomes. -/
theorem requestBytesJoinOrAreDiscarded : Obligations.RequestBytesJoinOrAreDiscarded := by
  refine fun s b => ⟨fun h hroom => ?room, fun h hfull => ?full, fun h => ?rejecting⟩
  case room =>
    rw [exec_requestByteWrite, writeRequestByte_room b h hroom]
    rfl
  case full =>
    rw [exec_requestByteWrite, writeRequestByte_full b h hfull]
    rfl
  case rejecting => rw [exec_requestByteWrite, writeRequestByte_rejecting b h]

/-! ## Reads of location 0 (09 R172; log 17) -/

theorem exec_replyByteRead (s : State) : exec .replyByteRead s = .next (readReplyByte s) := rfl

section
variable {s : State}

/-- The oldest reply byte leaves the FIFO and is the byte returned (09 R172). -/
theorem readReplyByte_cons {b : Byte} {rest : List Byte} (h : s.port.replies = b :: rest) :
    readReplyByte s = s.withPort { s.port with replies := rest, lastRead := b } := by
  rw [readReplyByte, h]

/-- With no reply byte held the byte returned is 00H (09 R172). -/
theorem readReplyByte_nil (h : s.port.replies = []) : readReplyByte s = s.withPort { s.port with lastRead := 0x00#8 } := by
  rw [readReplyByte, h]
  rfl

end

/-- Settles O8: the two forms of the reply FIFO, a byte at its front and none. -/
theorem replyBytesLeaveOldestFirst : Obligations.ReplyBytesLeaveOldestFirst := by
  refine fun s => ⟨fun b rest h => ?held, fun h => ?empty⟩
  case held =>
    rw [exec_replyByteRead, readReplyByte_cons h]
    rfl
  case empty =>
    rw [exec_replyByteRead, readReplyByte_nil h]
    rfl

/-! ## Occurrences (10 R188) -/

/-- The cause of an occurrence takes it. -/
theorem Attention.get_occur_same (a : Attention) (d : Detail) : (a.occur d).get d.cause = (a.get d.cause).occur d := by
  rw [Attention.get_occur, if_pos rfl]

/-- Settles O10: the cause of the occurrence, clear or pending, and the others. -/
theorem occurrencesLatchTheFirst : Obligations.OccurrencesLatchTheFirst := by
  refine fun a d => ⟨fun hclear => ?clear, fun hpending => ?pending, fun c hother => ?other⟩
  case clear => rw [Attention.get_occur_same, CauseState.occur_clear d hclear]
  case pending => rw [Attention.get_occur_same, CauseState.occur_pending d hpending]
  case other => exact Attention.get_occur_other a hother

end Sys2Proof.Machine
end
